-- ==== Sys2Proof/Word.lean ====
section
/-! DEFINITION. The words of the two streams of spec/30_encoding.md: an operation word names one micro-operation (or a
condition record), a stimulus word drives the inputs for a number of cycles (R80). -/

namespace Sys2Proof

/-- An operation word: 8 bits, CLASS in bits 7..4 and SUB in bits 3..0 (R81, R97). -/
abbrev OpWord := BitVec 8

/-- A stimulus word: 32 bits, LEVEL in bit 31 and COUNT in bits 30..0 (R90, R97). -/
abbrev StimWord := BitVec 32

/-- A word together with the stream it stands in: the streams are never mixed, and a decoder knows a word's length from
the stream it reads (R80, R97). -/
inductive StreamWord where
  | op (w : OpWord)
  | stim (w : StimWord)
deriving DecidableEq, Repr

end Sys2Proof
end

