-- ==== Sys2Proof/Syntax.lean ====
section
/-! DEFINITION. The instructions: one constructor per row of spec/opcode_table.json. -/

namespace Sys2Proof

/-- One constructor per row of the opcode table (R86 for the operations, R85 and R250 for the condition records, R90 and
R91 for the stimulus words). Only STIM RUN has operands that vary within its row (R98). -/
inductive Instr where
  | swOffFh
  | swOffFl
  | swOffBh
  | swOffBl
  | swOnFh
  | swOnFl
  | swOnBh
  | swOnBl
  | edgeRise
  | edgeFall
  | tick
  | pwmStart
  | pwmMatch
  | arb
  | goFwd
  | goBwd
  | goBrk
  | sample
  | tbAdv
  | pwmAdv
  | latch
  | seqStep
  | cycle
  | reset
  | condDiscard
  | condWdForce
  | condCoalescedEdge
  | condCoalescedTick
  | condCoalescedStart
  | condCoalescedMatch
  | condFault
  | stimReset
  /-- LEVEL (`true` is 1) and COUNT, 31 bits unsigned (R90) -/
  | stimRun (level : Bool) (count : BitVec 31)
deriving DecidableEq, Repr

end Sys2Proof
end

