-- ==== Sys2Proof/WellFormed.lean ====
section
/-! DEFINITION. Which instructions some word stands for. -/

namespace Sys2Proof

/-- The check of STIM RUN: COUNT is at least 1 (R90). COUNT 0 is the word of RESET at LEVEL 0 and reserved at LEVEL 1
(R91). -/
def stimCountOk (count : BitVec 31) : Bool := count != 0

/-- Every instruction with no varying operand is well formed; STIM RUN is when its COUNT is. -/
def Instr.wf : Instr → Bool
  | .stimRun _ count => stimCountOk count
  | .swOffFh | .swOffFl | .swOffBh | .swOffBl | .swOnFh | .swOnFl | .swOnBh | .swOnBl
  | .edgeRise | .edgeFall | .tick | .pwmStart | .pwmMatch | .arb | .goFwd | .goBwd | .goBrk
  | .sample | .tbAdv | .pwmAdv | .latch | .seqStep | .cycle | .reset
  | .condDiscard | .condWdForce | .condCoalescedEdge | .condCoalescedTick | .condCoalescedStart
  | .condCoalescedMatch | .condFault | .stimReset => true

end Sys2Proof
end

