-- ==== Sys2Proof/Decode.lean ====
section
/-! DEFINITION. Decoding and encoding the words of both streams (spec/30_encoding.md). The decoder matches the rows of R86
exactly (R87); the encoder builds each word from the fields of its format (R81 to R85, R90, R91). -/

namespace Sys2Proof

/-- Why a word is refused by the decoder. -/
inductive DecodeError where
  /-- a reserved operation word with CLASS 0xC: a reserved condition code (R89, R250) -/
  | reservedCondition (w : OpWord)
  /-- the GO word with TGT = 0 (R84, R195) -/
  | goUninitialized
  /-- any other reserved operation word (R89) -/
  | reservedOpWord (w : OpWord)
  /-- the stimulus word 0x80000000 (R91) -/
  | reservedStimWord
deriving DecidableEq, Repr

/-- The rows of R86 and of R85 with R250: every row is a full 8-bit match. -/
def opTable : List (OpWord × Instr) :=
  [(0x10, .swOffFh), (0x11, .swOffFl), (0x12, .swOffBh), (0x13, .swOffBl),
   (0x20, .swOnFh), (0x21, .swOnFl), (0x22, .swOnBh), (0x23, .swOnBl),
   (0x30, .edgeRise), (0x31, .edgeFall), (0x40, .tick), (0x50, .pwmStart), (0x51, .pwmMatch), (0x60, .arb),
   (0x71, .goFwd), (0x72, .goBwd), (0x73, .goBrk),
   (0x80, .sample), (0x81, .tbAdv), (0x82, .pwmAdv), (0x83, .latch), (0x84, .seqStep),
   (0x90, .cycle), (0xF0, .reset),
   (0xC1, .condDiscard), (0xC2, .condWdForce), (0xC4, .condCoalescedEdge), (0xC5, .condCoalescedTick),
   (0xC6, .condCoalescedStart), (0xC7, .condCoalescedMatch), (0xCF, .condFault)]

/-- CLASS, bits 7..4 (R81). -/
def opClass (w : OpWord) : BitVec 4 := w.extractLsb' 4 4

/-- SUB, bits 3..0 (R81). -/
def opSub (w : OpWord) : BitVec 4 := w.extractLsb' 0 4

/-- Why an operation word that no row matches is reserved (R89). -/
def reservedOp (w : OpWord) : DecodeError :=
  if opClass w = 0xC then .reservedCondition w
  else if w = 0x70 then .goUninitialized
  else .reservedOpWord w

/-- Decoding an operation word, total on all 256 values (R87). -/
def decodeOp (w : OpWord) : Except DecodeError Instr :=
  match opTable.find? (fun row => row.1 == w) with
  | some row => .ok row.2
  | none => .error (reservedOp w)

/-- LEVEL, bit 31 of a stimulus word (R90). -/
def stimLevel (w : StimWord) : Bool := w.getLsbD 31

/-- COUNT, bits 30..0 of a stimulus word (R90). -/
def stimCount (w : StimWord) : BitVec 31 := w.extractLsb' 0 31

/-- Decoding a stimulus word, total on all 2^32 values (R90, R91). -/
def decodeStim (w : StimWord) : Except DecodeError Instr :=
  if stimCountOk (stimCount w) then .ok (.stimRun (stimLevel w) (stimCount w))
  else if stimLevel w then .error .reservedStimWord
  else .ok .stimReset

/-- Decoding a word of either stream (R80). -/
def decode : StreamWord → Except DecodeError Instr
  | .op w => decodeOp w
  | .stim w => decodeStim w

/-! ### The encoder -/

/-- An operation word from its CLASS and SUB (R81). -/
def opWord (cls sub : BitVec 4) : OpWord := cls ++ sub

/-- Format S: CLASS 1 (off) or 2 (on), bits 3..2 zero, SWID in bits 1..0 (R83). -/
def formatS (on : Bool) (swid : BitVec 2) : OpWord :=
  opWord (if on then 2 else 1) ((0 : BitVec 2) ++ swid)

/-- Format G: CLASS 7, bits 3..2 zero, TGT in bits 1..0 (R84). -/
def formatG (tgt : BitVec 2) : OpWord := opWord 7 ((0 : BitVec 2) ++ tgt)

/-- Format C: CLASS 0xC, COND in bits 3..0 (R85). -/
def formatC (cond : BitVec 4) : OpWord := opWord 0xC cond

/-- A stimulus word from LEVEL and COUNT (R90). -/
def stimWord (level : Bool) (count : BitVec 31) : StimWord := BitVec.ofBool level ++ count

/-- The word of an instruction (R86, R250, R90, R91). -/
def encode : Instr → StreamWord
  | .swOffFh => .op (formatS false 0)
  | .swOffFl => .op (formatS false 1)
  | .swOffBh => .op (formatS false 2)
  | .swOffBl => .op (formatS false 3)
  | .swOnFh => .op (formatS true 0)
  | .swOnFl => .op (formatS true 1)
  | .swOnBh => .op (formatS true 2)
  | .swOnBl => .op (formatS true 3)
  | .edgeRise => .op (opWord 3 0)
  | .edgeFall => .op (opWord 3 1)
  | .tick => .op (opWord 4 0)
  | .pwmStart => .op (opWord 5 0)
  | .pwmMatch => .op (opWord 5 1)
  | .arb => .op (opWord 6 0)
  | .goFwd => .op (formatG 1)
  | .goBwd => .op (formatG 2)
  | .goBrk => .op (formatG 3)
  | .sample => .op (opWord 8 0)
  | .tbAdv => .op (opWord 8 1)
  | .pwmAdv => .op (opWord 8 2)
  | .latch => .op (opWord 8 3)
  | .seqStep => .op (opWord 8 4)
  | .cycle => .op (opWord 9 0)
  | .reset => .op (opWord 0xF 0)
  | .condDiscard => .op (formatC 1)
  | .condWdForce => .op (formatC 2)
  | .condCoalescedEdge => .op (formatC 4)
  | .condCoalescedTick => .op (formatC 5)
  | .condCoalescedStart => .op (formatC 6)
  | .condCoalescedMatch => .op (formatC 7)
  | .condFault => .op (formatC 0xF)
  | .stimReset => .stim (stimWord false 0)
  | .stimRun level count => .stim (stimWord level count)

/-! ### Numbered words -/

/-- The word of the stream whose words have `nbits` bits, from its bits as a number (R97); none for another length. -/
def streamWordOf (nbits w : Nat) : Option StreamWord :=
  if nbits = 8 then some (.op (BitVec.ofNat 8 w))
  else if nbits = 32 then some (.stim (BitVec.ofNat 32 w))
  else none

/-- The instruction the decoder reads from an instruction of `nbits` bits `w`. -/
def decodeTableWord (nbits w : Nat) : Option Instr :=
  match streamWordOf nbits w with
  | none => none
  | some sw => (decode sw).toOption

end Sys2Proof
end

