-- ==== Sys2Proof/Machine/Assembler.lean ====
section
/-! DEFINITION. Stimulus assembly (spec/30_encoding.md R92): the statements, the pseudo-instructions, and the text. -/

namespace Sys2Proof.Machine

/-- The statements and pseudo-instructions of R92. -/
inductive Stmt where
  | reset
  | run (level : Bool) (count : Nat)
  | low (n : Nat)
  | high (n : Nat)
  | pulse (w g : Nat)
  | frame (w : Nat)
deriving DecidableEq, Repr

/-- The cycles of a FRAME (R92, D25). -/
def frameCycles : Nat := 5000

/-- RUN: the count is in 1 .. 2^31 - 1 (R92). -/
def assembleRun (level : Bool) (count : Nat) : Option (List Instr) :=
  if 1 ≤ count ∧ count < 2 ^ 31 then some [.stimRun level (BitVec.ofNat 31 count)] else none

/-- PULSE w, g is RUN 1, w then RUN 0, g (R92). -/
def assemblePulse (w g : Nat) : Option (List Instr) := do
  let hi ← assembleRun true w
  let lo ← assembleRun false g
  return hi ++ lo

/-- The real statements a statement expands to, in order (R92). A count outside its range has none (log 23). -/
def Stmt.expand : Stmt → Option (List Instr)
  | .reset => some [.stimReset]
  | .run level count => assembleRun level count
  | .low n => assembleRun false n
  | .high n => assembleRun true n
  | .pulse w g => assemblePulse w g
  | .frame w => assemblePulse w (frameCycles - w)

/-- The instructions of a program (R92). -/
def expandAll : List Stmt → Option (List Instr)
  | [] => some []
  | st :: rest => do
    let is ← st.expand
    let js ← expandAll rest
    return is ++ js

/-- The stimulus word of an instruction; none for an operation word (R80: the streams are never mixed). -/
def stimWordOf (i : Instr) : Option StimWord :=
  match encode i with
  | .stim w => some w
  | .op _ => none

/-- The stimulus words of a program (R90, R91, R92). -/
def assemble (p : List Stmt) : Option (List StimWord) := do
  (← expandAll p).mapM stimWordOf

/-! ### The text of a statement -/

/-- A line without its comment: `;` starts a comment (R92). -/
def stripComment : List Char → List Char
  | [] => []
  | c :: cs => if c = ';' then [] else c :: stripComment cs

/-- The words of a line: blanks separate, and a comma stands by itself (log 23). `cur` is the word being read, reversed. -/
def tokens (cur : List Char) : List Char → List (List Char)
  | [] => if cur.isEmpty then [] else [cur.reverse]
  | c :: cs =>
    if c = ' ' ∨ c = '\t' then
      (if cur.isEmpty then [] else [cur.reverse]) ++ tokens [] cs
    else if c = ',' then
      (if cur.isEmpty then [] else [cur.reverse]) ++ [[',']] ++ tokens [] cs
    else tokens (c :: cur) cs

/-- A decimal integer, read after the value `acc` of the digits before it. -/
def decimalFrom (acc : Nat) : List Char → Option Nat
  | [] => some acc
  | c :: cs =>
    if '0' ≤ c ∧ c ≤ '9' then decimalFrom (10 * acc + (c.toNat - '0'.toNat)) cs else none

/-- A decimal integer (R92): one digit at least. DESIGN CHOICE (log 23): leading zeros are taken, so 0450 is 450; R92 does
not say. -/
def decimal (cs : List Char) : Option Nat := if cs.isEmpty then none else decimalFrom 0 cs

/-- A level: 0 or 1 (R92). DESIGN CHOICE (log 23): leading zeros are taken, so 01 is level 1; R92 does not say. -/
def levelOf (cs : List Char) : Option Bool :=
  match decimal cs with
  | some 0 => some false
  | some 1 => some true
  | _ => none

/-- The statement that the words of a line spell (R92). -/
def statementOf (ts : List (List Char)) : Option Stmt :=
  match ts with
  | [m] => if m = "RESET".toList then some .reset else none
  | [m, a] =>
    if m = "LOW".toList then (decimal a).map .low
    else if m = "HIGH".toList then (decimal a).map .high
    else if m = "FRAME".toList then (decimal a).map .frame
    else none
  | [m, a, comma, b] =>
    if comma ≠ [','] then none
    else if m = "RUN".toList then do return .run (← levelOf a) (← decimal b)
    else if m = "PULSE".toList then do return .pulse (← decimal a) (← decimal b)
    else none
  | _ => none

/-- A line: nothing for an empty or comment line, a statement, or none where it spells no statement (R92). -/
def parseLine (line : List Char) : Option (List Stmt) :=
  match tokens [] (stripComment line) with
  | [] => some []
  | t :: ts => (statementOf (t :: ts)).map fun st => [st]

/-- A program: one statement a line (R92). -/
def parseProgram : List (List Char) → Option (List Stmt)
  | [] => some []
  | l :: ls => do
    let st ← parseLine l
    let sts ← parseProgram ls
    return st ++ sts

end Sys2Proof.Machine
end

