-- ==== Sys2Proof/Config.lean ====
section
/-! DEFINITION. What an implementation fixes (spec/00_scope.md section 4: the configuration record, R6 to R11) and the
free values: constants with no body for what the spec leaves open. -/

namespace Sys2Proof.Config

/-- The configuration record (R6 to R11, D31): build-time constants, each with the spec's default. Which records are well
formed is `Params.wf` of Sys2Proof/Machine/Parameters.lean (R12). -/
structure Params where
  /-- P_PW_MIN, cycles (R6) -/
  pwMin : Nat := 275
  /-- P_PW_MAX, cycles (R6) -/
  pwMax : Nat := 475
  /-- P_PW_MID, cycles (R6) -/
  pwMid : Nat := 375
  /-- P_PW_DZ, cycles (R6) -/
  pwDz : Nat := 10
  /-- P_POWER_MAX (R7) -/
  powerMax : Nat := 255
  /-- P_DUTY_MAX (R7) -/
  dutyMax : Nat := 255
  /-- P_DEAD, cycles (R8) -/
  dead : Nat := 50
  /-- P_SETTLE, cycles (R8) -/
  settle : Nat := 2500
  /-- P_SEQ_W, bits of SEQ_CNT (R8) -/
  seqW : Nat := 12
  /-- P_WD_MAX, ticks (R9) -/
  wdMax : Nat := 50
  /-- P_WD_W, bits of WD_CNT (R9) -/
  wdW : Nat := 8
  /-- P_TIME_W, bits of TIME and PULSE_START (R10) -/
  timeW : Nat := 32
  /-- P_TICK_SHIFT (R10) -/
  tickShift : Nat := 8
  /-- T_CNT in nanoseconds; no rule reads it (R10) -/
  tCntNs : Nat := 4000
  /-- P_PWM_PERIOD, cycles (R11) -/
  pwmPeriod : Nat := 255
deriving DecidableEq, Repr

/-- FREE VALUE (log 6). The level of `rc_in` in a period for which no stimulus is given: the world outside drives it. -/
opaque rcInLevel : Nat → Bool

/-- FREE VALUE (log 6). The level of `rst` in a period for which no stimulus is given: the world outside drives it. -/
opaque rstLevel : Nat → Bool

/-- FREE VALUE (log 11). The level of the reserved timer output `pwm_oc`: "any value" (R45, D23). -/
opaque pwmOcLevel : Nat → Bool

/-- FREE VALUE (log 9). What SEQ_CNT is decremented to from 0: R196 states no value there. -/
opaque seqCntBelowZero : Nat → Nat

/-- FREE VALUE (log 10). What PWM_CNT becomes where PWM_CNT + 1 does not fit its 8 bits: R125 states no value there. -/
opaque pwmCntPastWidth : Nat → BitVec 8

/-- FREE VALUE (log 14). Which of the four reason numbers of R258 (0 to 3 here, one less than the number) a COND FAULT
record carries when it is performed on its own. -/
opaque faultRecordReason : Nat → Fin 4

end Sys2Proof.Config
end

