-- ==== Sys2Proof/Machine/State.lean ====
section
/-! DEFINITION. The state of the block as plain data (spec/10_state.md): its fourteen registers, its ports, and the model's
own fields (the configuration record, the event bits inside a cycle, the two word streams, the trace, the free-value
counter). -/

namespace Sys2Proof.Machine

/-- The MotorState encoding of R28, used by MOTOR_STATE, TARGET_STATE and SEQ.TGT: 0, 1, 2, 3 in this order. -/
inductive MotorState where
  | uninit
  | fwd
  | bwd
  | brake
deriving DecidableEq, Repr

/-- SEQ.PHASE (R35): 0, 1, 2, 3 in this order. -/
inductive Phase where
  | idle
  | dead1
  | dead2
  | settle
deriving DecidableEq, Repr

/-- The switch ids of R31: 0, 1, 2, 3 in this order. -/
inductive SwitchId where
  | fh
  | fl
  | bh
  | bl
deriving DecidableEq, Repr

/-- The switch bank SW (R31): `true` is on. Bit 0 is FH, bit 1 FL, bit 2 BH, bit 3 BL. -/
structure Switches where
  fh : Bool
  fl : Bool
  bh : Bool
  bl : Bool
deriving DecidableEq, Repr

/-- All four switches off. -/
def Switches.off : Switches := ⟨false, false, false, false⟩

/-- One bit per event source (R34, R256): the form of PEND and of the event bits inside a cycle. Bit 0 is EDGE, bit 1
TICK, bit 2 START, bit 3 MATCH. -/
structure Events where
  edge : Bool
  tick : Bool
  start : Bool
  pwmMatch : Bool
deriving DecidableEq, Repr

/-- No event. -/
def Events.none : Events := ⟨false, false, false, false⟩

/-- A trace record `(t, word, payload)` (R94). -/
structure Record where
  t : Nat
  word : OpWord
  payload : Option Nat
deriving DecidableEq, Repr

/-- A request to perform an operation word directly, with the level of `rc_in` in the period it is performed in (log 5). -/
structure OpRequest where
  word : OpWord
  rc : Bool
deriving DecidableEq, Repr

/-- The state. The first fourteen fields are the block's registers (R22 to R36), the next two its ports (R43, R44), the
rest the model's own (INVENTORY.md, State). -/
structure State where
  /-- TIME, register 0x00, `timeW` bits (R22) -/
  time : Nat
  /-- PULSE_START, register 0x01, `timeW` bits (R23) -/
  pulseStart : Nat
  /-- WD_CNT, register 0x02, `wdW` bits (R24) -/
  wdCnt : Nat
  /-- TARGET_STATE, register 0x03 (R25) -/
  targetState : MotorState
  /-- TARGET_POWER, register 0x04, 8 bits (R26) -/
  targetPower : Nat
  /-- MOTOR_STATE, register 0x05 (R27) -/
  motorState : MotorState
  /-- DUTY, register 0x06, 8 bits (R29) -/
  duty : Nat
  /-- DUTY_SH, register 0x07, 8 bits (R30) -/
  dutySh : Nat
  /-- PWM_CNT, register 0x08, 8 bits (R32) -/
  pwmCnt : Nat
  /-- SW, register 0x09 (R31) -/
  sw : Switches
  /-- RC_PREV, register 0x0A (R33) -/
  rcPrev : Bool
  /-- PEND, register 0x0B (R34) -/
  pend : Events
  /-- SEQ.PHASE, register 0x0C bits 1..0 (R35) -/
  phase : Phase
  /-- SEQ.TGT, register 0x0C bits 3..2 (R35) -/
  tgt : MotorState
  /-- SEQ_CNT, register 0x0D, `seqW` bits (R36) -/
  seqCnt : Nat
  /-- port `rc_in`: the level in the period being performed (R43) -/
  rcIn : Bool
  /-- ports `sw_fh`, `sw_fl`, `sw_bh`, `sw_bl`: what they show in the latest period (R44, R143) -/
  pins : Switches
  /-- model: the event bits on their way from SAMPLE, TB_ADV and PWM_ADV to LATCH (R120, log 7) -/
  ev : Events
  /-- model: the configuration record, which nothing writes (R20, log 1) -/
  cfg : Config.Params
  /-- model: operation words still to be performed directly (R80, log 5) -/
  ops : List OpRequest
  /-- model: stimulus words still to be performed (R90, log 5) -/
  stims : List StimWord
  /-- model: the trace, newest record first (R94, log 3) -/
  trace : List Record
  /-- model: the counter that free values are drawn with (log 21) -/
  free : Nat
  /-- model: whether a RESET has been performed (R46, log 15) -/
  started : Bool
deriving DecidableEq, Repr

/-- The reasons of R258, numbered 1 to 4 in this order. -/
inductive FaultReason where
  | reservedWord
  | seqIllegal
  | targetUninit
  | goBusy
deriving DecidableEq, Repr

/-- The faults of R258. Each carries the state the machine stopped in: "the registers keep the values they held when the
fault was raised", and the trace ends with the COND FAULT record (log 18). -/
inductive Fault where
  /-- Raised by `step` on a reserved operation word (R89, R195). Safe: the spec stops here too. -/
  | reservedWord (stopped : State)
  /-- Raised by SEQ_STEP when SEQ_CNT is 0 and (PHASE, TGT) is no legal busy combination (R201). Safe: the spec stops here too. -/
  | seqIllegal (stopped : State)
  /-- Raised by ARB when TARGET_STATE is Uninitialized (R240, R25). Safe: the spec stops here too. -/
  | targetUninit (stopped : State)
  /-- Raised by GO_FWD, GO_BWD and GO_BRK while the block is busy (R191). Safe: the spec stops here too. -/
  | goBusy (stopped : State)
deriving DecidableEq, Repr

/-- The fault of a reason, stopped in a state. -/
def Fault.of : FaultReason → State → Fault
  | .reservedWord, s => .reservedWord s
  | .seqIllegal, s => .seqIllegal s
  | .targetUninit, s => .targetUninit s
  | .goBusy, s => .goBusy s

/-- What the model refuses (R258, D35): errors of the model's user, not states of the block. -/
inductive Refusal where
  /-- Raised by an arm of `exec` whose instruction has no meaning yet; no arm does. Safe. -/
  | notModelled (mnemonic : String)
  /-- Raised by `step` when the configuration breaks R12. Safe: the spec refuses it too. -/
  | illFormedConfig
  /-- Raised by `step` before the first RESET (R46). Safe: the spec refuses it too. -/
  | notFromReset
  /-- Raised by `step` when the stimulus program holds the word 0x80000000 (R91). Safe: the spec refuses it too. -/
  | reservedStimulus
  /-- Raised by the trace reader on a reserved condition code (R250). Safe: the spec refuses it too. -/
  | malformedTrace
deriving DecidableEq, Repr

/-- The outcome of an operation. -/
abbrev Result := Host.Outcome State Fault Refusal

/-- The machine right after RESET (R280), under the default configuration: every register at its reset value, RESET's own
record in the trace, no stimulus given yet. -/
def State.reset : State where
  time := 0
  pulseStart := 0
  wdCnt := 0
  targetState := .brake
  targetPower := 0
  motorState := .uninit
  duty := 0
  dutySh := 0
  pwmCnt := 0
  sw := Switches.off
  rcPrev := false
  pend := Events.none
  phase := .idle
  tgt := .uninit
  seqCnt := 0
  rcIn := false
  pins := Switches.off
  ev := Events.none
  cfg := {}
  ops := []
  stims := []
  trace := [⟨0, 0xF0, none⟩]
  free := 0
  started := true

end Sys2Proof.Machine
end

