-- ==== Sys2Proof/Machine/Writers.lean ====
section
/-! DEFINITION. `R <- v` (spec/00_scope.md R14): one writer for each register, and for the input port. A value is reduced
modulo a power of two only where a rule says so. -/

namespace Sys2Proof.Machine

/-- `TIME <- v` (R22). -/
def writeTime (v : Nat) (s : State) : State := { s with time := v }

/-- `PULSE_START <- v` (R23). -/
def writePulseStart (v : Nat) (s : State) : State := { s with pulseStart := v }

/-- `WD_CNT <- v` (R24). -/
def writeWdCnt (v : Nat) (s : State) : State := { s with wdCnt := v }

/-- `TARGET_STATE <- v` (R25). -/
def writeTargetState (v : MotorState) (s : State) : State := { s with targetState := v }

/-- `TARGET_POWER <- v` (R26). -/
def writeTargetPower (v : Nat) (s : State) : State := { s with targetPower := v }

/-- `MOTOR_STATE <- v` (R27). -/
def writeMotorState (v : MotorState) (s : State) : State := { s with motorState := v }

/-- `DUTY <- v` (R29). -/
def writeDuty (v : Nat) (s : State) : State := { s with duty := v }

/-- `DUTY_SH <- v` (R30). -/
def writeDutySh (v : Nat) (s : State) : State := { s with dutySh := v }

/-- `PWM_CNT <- v` (R32). -/
def writePwmCnt (v : Nat) (s : State) : State := { s with pwmCnt := v }

/-- `SW <- v` (R31). -/
def writeSw (v : Switches) (s : State) : State := { s with sw := v }

/-- `RC_PREV <- v` (R33). -/
def writeRcPrev (v : Bool) (s : State) : State := { s with rcPrev := v }

/-- `PEND <- v` (R34). -/
def writePend (v : Events) (s : State) : State := { s with pend := v }

/-- `SEQ.PHASE <- v` (R35). -/
def writePhase (v : Phase) (s : State) : State := { s with phase := v }

/-- `SEQ.TGT <- v` (R35). -/
def writeTgt (v : MotorState) (s : State) : State := { s with tgt := v }

/-- `SEQ_CNT <- v` (R36). -/
def writeSeqCnt (v : Nat) (s : State) : State := { s with seqCnt := v }

/-- The world outside drives `rc_in` to a level (R43). -/
def driveRc (b : Bool) (s : State) : State := { s with rcIn := b }

end Sys2Proof.Machine
end

