-- ==== Sys2Proof/Machine/Flags.lean ====
section
/-! DEFINITION. The pending flags (spec/10_state.md R34, R40: the block's only flags): one per event source, set by LATCH,
cleared by the source's service. -/

namespace Sys2Proof.Machine

/-- The four event sources of R256. -/
inductive EventSource where
  | edge
  | tick
  | start
  | pwmMatch
deriving DecidableEq, Repr

/-- The flag of a source. -/
def Events.get (e : Events) : EventSource → Bool
  | .edge => e.edge
  | .tick => e.tick
  | .start => e.start
  | .pwmMatch => e.pwmMatch

/-- The flags with one source's flag set to a value. -/
def Events.set (e : Events) (k : EventSource) (b : Bool) : Events :=
  match k with
  | .edge => { e with edge := b }
  | .tick => { e with tick := b }
  | .start => { e with start := b }
  | .pwmMatch => { e with pwmMatch := b }

/-- The condition record of a source's coalesced event (R250). -/
def EventSource.coalesced : EventSource → Instr
  | .edge => .condCoalescedEdge
  | .tick => .condCoalescedTick
  | .start => .condCoalescedStart
  | .pwmMatch => .condCoalescedMatch

/-- PEND with the flag of a source set (R126). -/
def setPend (k : EventSource) (s : State) : State := writePend (s.pend.set k true) s

/-- PEND with the flag of a source cleared (R254). -/
def clearPend (k : EventSource) (s : State) : State := writePend (s.pend.set k false) s

/-- The event bit of a source written for LATCH to read (R120, R126). -/
def setEvent (k : EventSource) (b : Bool) (s : State) : State := { s with ev := s.ev.set k b }

end Sys2Proof.Machine
end

