-- ==== Sys2Proof/Machine/Registers.lean ====
section
/-! DEFINITION. The register file by number (spec/10_state.md section 2): each register's number, width, value as an
unsigned integer, legal values, and its serialisation (spec/20_memory.md R61). The rules name registers by these; no
operation of the block reads through them (R21). -/

namespace Sys2Proof.Machine

/-- R28: the number of a MotorState. -/
def MotorState.code : MotorState → Nat
  | .uninit => 0
  | .fwd => 1
  | .bwd => 2
  | .brake => 3

/-- R35: the number of a phase. -/
def Phase.code : Phase → Nat
  | .idle => 0
  | .dead1 => 1
  | .dead2 => 2
  | .settle => 3

/-- R31: the number of a switch id. -/
def SwitchId.code : SwitchId → Nat
  | .fh => 0
  | .fl => 1
  | .bh => 2
  | .bl => 3

/-- Four bits as a number, bit 0 first (R13). -/
def nibble (b0 b1 b2 b3 : Bool) : Nat := b0.toNat + 2 * b1.toNat + 4 * b2.toNat + 8 * b3.toNat

/-- R31: SW as a number. -/
def Switches.code (w : Switches) : Nat := nibble w.fh w.fl w.bh w.bl

/-- R34: PEND as a number. -/
def Events.code (e : Events) : Nat := nibble e.edge e.tick e.start e.pwmMatch

/-- The fourteen registers, in the order of their numbers (R21). -/
inductive Reg where
  | time
  | pulseStart
  | wdCnt
  | targetState
  | targetPower
  | motorState
  | duty
  | dutySh
  | pwmCnt
  | sw
  | rcPrev
  | pend
  | seq
  | seqCnt
deriving DecidableEq, Repr

/-- All fourteen, in the order of their numbers. -/
def Reg.all : List Reg :=
  [.time, .pulseStart, .wdCnt, .targetState, .targetPower, .motorState, .duty, .dutySh, .pwmCnt, .sw, .rcPrev, .pend,
   .seq, .seqCnt]

/-- The register number (R21, and the table of section 2). -/
def Reg.number : Reg → Nat
  | .time => 0x00
  | .pulseStart => 0x01
  | .wdCnt => 0x02
  | .targetState => 0x03
  | .targetPower => 0x04
  | .motorState => 0x05
  | .duty => 0x06
  | .dutySh => 0x07
  | .pwmCnt => 0x08
  | .sw => 0x09
  | .rcPrev => 0x0A
  | .pend => 0x0B
  | .seq => 0x0C
  | .seqCnt => 0x0D

/-- The width in bits (R22 to R36). -/
def Reg.width (c : Config.Params) : Reg → Nat
  | .time => c.timeW
  | .pulseStart => c.timeW
  | .wdCnt => c.wdW
  | .targetState => 2
  | .targetPower => 8
  | .motorState => 2
  | .duty => 8
  | .dutySh => 8
  | .pwmCnt => 8
  | .sw => 4
  | .rcPrev => 1
  | .pend => 4
  | .seq => 4
  | .seqCnt => c.seqW

/-- The unsigned integer a register holds (R13). -/
def State.read (s : State) : Reg → Nat
  | .time => s.time
  | .pulseStart => s.pulseStart
  | .wdCnt => s.wdCnt
  | .targetState => s.targetState.code
  | .targetPower => s.targetPower
  | .motorState => s.motorState.code
  | .duty => s.duty
  | .dutySh => s.dutySh
  | .pwmCnt => s.pwmCnt
  | .sw => s.sw.code
  | .rcPrev => s.rcPrev.toNat
  | .pend => s.pend.code
  | .seq => s.phase.code + 4 * s.tgt.code
  | .seqCnt => s.seqCnt

/-- The legal busy combinations of SEQ (R35, R196). -/
def seqBusyOk : Phase → MotorState → Bool
  | .dead1, .fwd | .dead1, .bwd | .dead1, .brake | .dead2, .fwd | .dead2, .bwd | .settle, .brake => true
  | _, _ => false

/-- The legal combinations of SEQ (R35): IDLE with any TGT, or a legal busy one. -/
def seqLegal (p : Phase) (t : MotorState) : Bool := p == .idle || seqBusyOk p t

/-- No leg of the power stage has both its switches on (R31, R205): leg A is FH and BL, leg B is BH and FL. -/
def Switches.legsOk (w : Switches) : Bool := !(w.fh && w.bl) && !(w.bh && w.fl)

/-- The legal values of each register (the table of section 2). -/
def State.legal (s : State) : Reg → Bool
  | .time => s.time < 2 ^ s.cfg.timeW
  | .pulseStart => s.pulseStart < 2 ^ s.cfg.timeW
  | .wdCnt => s.wdCnt ≤ s.cfg.wdMax
  | .targetState => s.targetState != .uninit
  | .targetPower => s.targetPower ≤ 255
  | .motorState => true
  | .duty => s.duty ≤ 255
  | .dutySh => s.dutySh ≤ 255
  | .pwmCnt => s.pwmCnt < s.cfg.pwmPeriod
  | .sw => s.sw.legsOk
  | .rcPrev => true
  | .pend => true
  | .seq => seqLegal s.phase s.tgt
  | .seqCnt => s.seqCnt ≤ max s.cfg.dead s.cfg.settle

/-- The bytes of a value of `n` bytes, least significant first (R61). -/
def littleEndian : Nat → Nat → List (BitVec 8)
  | 0, _ => []
  | n + 1, v => BitVec.ofNat 8 v :: littleEndian n (v / 256)

/-- A register serialised into whole bytes (R61). -/
def State.serialise (s : State) (r : Reg) : List (BitVec 8) :=
  littleEndian ((r.width s.cfg + 7) / 8) (s.read r)

end Sys2Proof.Machine
end

