-- ==== Sys2Proof/Machine/Ops.lean ====
section
/-! DEFINITION. The operations the meanings share: sequencing, the trace (spec/30_encoding.md R94), raising a fault
(spec/60_exceptions.md R258), the switch bank (spec/41_switches.md), the clock period, and the free values. -/

namespace Sys2Proof.Machine

/-- Go on with the next operation where this one leaves a next state; a fault or a refusal ends the whole (R257: the first
`raise` ends it). -/
def andThen (r : Result) (k : State → Result) : Result :=
  match r with
  | .next s => k s
  | .fault f => .fault f
  | .refused q => .refused q

/-! ### The trace -/

/-- The word a record carries for an instruction: its operation word or condition record (R94). No stimulus word is ever
emitted. -/
def recordWord (i : Instr) : OpWord :=
  match encode i with
  | .op w => w
  | .stim _ => 0

/-- Append a record with a given stamp to the trace (R94; the newest record stands first, log 3). -/
def emitAt (t : Nat) (i : Instr) (payload : Option Nat) (s : State) : State :=
  { s with trace := ⟨t, recordWord i, payload⟩ :: s.trace }

/-- `emit` (R14, R94): stamped with TIME at the moment of emission. -/
def emit (i : Instr) (payload : Option Nat) (s : State) : State := emitAt s.time i payload s

/-- The trace in the order it was emitted (R94). -/
def State.log (s : State) : List Record := s.trace.reverse

/-! ### Faults -/

/-- The reason numbers of R258. -/
def FaultReason.number : FaultReason → Nat
  | .reservedWord => 1
  | .seqIllegal => 2
  | .targetUninit => 3
  | .goBusy => 4

/-- `raise Fault(reason)` (R14, R258): emit COND FAULT with the reason number and stop; the registers keep their values. -/
def raise (r : FaultReason) (s : State) : Result :=
  .fault (Fault.of r (emit .condFault (some r.number) s))

/-! ### The switch bank -/

/-- The level of a switch (R31). -/
def Switches.get (w : Switches) : SwitchId → Bool
  | .fh => w.fh
  | .fl => w.fl
  | .bh => w.bh
  | .bl => w.bl

/-- The bank with one switch at a level: the others keep theirs (R140, R141). -/
def Switches.set (w : Switches) (x : SwitchId) (b : Bool) : Switches :=
  match x with
  | .fh => { w with fh := b }
  | .fl => { w with fl := b }
  | .bh => { w with bh := b }
  | .bl => { w with bl := b }

/-- The operation that turns a switch on (R86). -/
def SwitchId.onWord : SwitchId → Instr
  | .fh => .swOnFh
  | .fl => .swOnFl
  | .bh => .swOnBh
  | .bl => .swOnBl

/-- The operation that turns a switch off (R86). -/
def SwitchId.offWord : SwitchId → Instr
  | .fh => .swOffFh
  | .fl => .swOffFl
  | .bh => .swOffBh
  | .bl => .swOffBl

/-- SW_ON (R140): recorded on every call, whether or not the level changes (R95). -/
def switchOn (x : SwitchId) (s : State) : State :=
  writeSw (s.sw.set x true) (emit x.onWord none s)

/-- SW_OFF (R141): recorded on every call, whether or not the level changes (R95). -/
def switchOff (x : SwitchId) (s : State) : State :=
  writeSw (s.sw.set x false) (emit x.offWord none s)

/-! ### The clock period -/

/-- The block is busy exactly when SEQ.PHASE is not IDLE (R37). -/
def State.busy (s : State) : Bool := s.phase != .idle

/-- A period of the count clock begins: the four pins show SW as the last period left it (R143), and `pwm_oc` takes any
level (R45). -/
def beginPeriod (s : State) : State := { s with pins := s.sw, free := s.free + 1 }

/-- A cycle ends: nothing but the registers persists to the next (R20), so the event bits are gone (log 7). -/
def endCycle (s : State) : State := { s with ev := Events.none }

/-- The level `pwm_oc` shows: a free value (R45, D23, log 11). -/
def State.pwmOc (s : State) : Bool := Config.pwmOcLevel s.free

/-! ### Free values -/

/-- One free value has been taken: the next one is another (log 21). -/
def takeFree (s : State) : State := { s with free := s.free + 1 }

/-- SEQ_CNT less one (R196). From 0 the spec states no value: a free value of the counter's width (log 9). -/
def seqCntDown (s : State) : State :=
  if s.seqCnt = 0 then writeSeqCnt (Config.seqCntBelowZero s.free % 2 ^ s.cfg.seqW) (takeFree s)
  else writeSeqCnt (s.seqCnt - 1) s

/-- PWM_CNT plus one (R125). Where that does not fit the register's 8 bits the spec states no value: a free value of that
width (log 10). -/
def pwmCntUp (s : State) : State :=
  if s.pwmCnt + 1 < 2 ^ 8 then writePwmCnt (s.pwmCnt + 1) s
  else writePwmCnt (Config.pwmCntPastWidth s.free).toNat (takeFree s)

end Sys2Proof.Machine
end

