-- ==== Sys2Proof/Machine/Operands.lean ====
section
/-! DEFINITION. The values the operations compute from their operands: times and widths, the pulse decode, the switches and
the target of a transition. -/

namespace Sys2Proof.Machine

/-- The TIME that this cycle's TB_ADV leaves: TIME + 1 modulo 2^P_TIME_W (R123). -/
def nextTime (s : State) : Nat := (s.time + 1) % 2 ^ s.cfg.timeW

/-- The elapsed width `(TIME - PULSE_START) mod 2^P_TIME_W` (R153). -/
def elapsed (s : State) : Nat :=
  (((s.time : Int) - (s.pulseStart : Int)) % ((2 ^ s.cfg.timeW : Nat) : Int)).toNat

/-- The Forward power scale, clamped to P_POWER_MAX (R156). -/
def forwardPower (c : Config.Params) (e : Nat) : Nat :=
  min c.powerMax (((e - c.pwMid) * c.powerMax) / (c.pwMax - c.pwMid))

/-- The Backward power scale, clamped at both ends (R157). -/
def backwardPower (c : Config.Params) (e : Nat) : Nat :=
  max 0 (min c.powerMax (((c.pwMid - e) * c.powerMax) / (c.pwMid - c.pwMin)))

/-- A width is valid exactly when it lies in the band, both bounds included (R155). -/
def widthValid (c : Config.Params) (e : Nat) : Bool := c.pwMin ≤ e && e ≤ c.pwMax

/-- The target and the power that a valid width decodes to (R156, R157, R158). -/
def decodeValid (c : Config.Params) (e : Nat) : MotorState × Nat :=
  if e > c.pwMid + c.pwDz then (.fwd, forwardPower c e)
  else if e + c.pwDz < c.pwMid then (.bwd, backwardPower c e)
  else (.brake, 0)

/-- The target of a GO operation: there is no transition to Uninitialized (R84, R195). -/
inductive GoTarget where
  | fwd
  | bwd
  | brake
deriving DecidableEq, Repr

/-- The MotorState a transition leads to (R84). -/
def GoTarget.state : GoTarget → MotorState
  | .fwd => .fwd
  | .bwd => .bwd
  | .brake => .brake

/-- The GO operation of a target (R86). -/
def GoTarget.word : GoTarget → Instr
  | .fwd => .goFwd
  | .bwd => .goBwd
  | .brake => .goBrk

/-- The two switches the make-safe step turns off, in the order it does (R192, R193, R194, R203). -/
def GoTarget.makeSafe : GoTarget → SwitchId × SwitchId
  | .fwd => (.bh, .bl)
  | .bwd => (.fh, .fl)
  | .brake => (.fh, .bh)

end Sys2Proof.Machine
end

