-- ==== Sys2Proof/Machine/Conditions.lean ====
section
/-! DEFINITION. The condition records as instructions (spec/30_encoding.md R85, spec/60_exceptions.md R250): "A condition
record is written to the trace only; it changes no register and no output". -/

namespace Sys2Proof.Machine

/-- COND DISCARD, record 0xC1, with the elapsed width as its payload (R94, R250, log 13). -/
def execCondDiscard (s : State) : Result := .next (emit .condDiscard (some (elapsed s)) s)

/-- COND WD_FORCE, record 0xC2 (R250). -/
def execCondWdForce (s : State) : Result := .next (emit .condWdForce none s)

/-- COND COALESCED_EDGE, record 0xC4 (R250). -/
def execCondCoalescedEdge (s : State) : Result := .next (emit .condCoalescedEdge none s)

/-- COND COALESCED_TICK, record 0xC5 (R250). -/
def execCondCoalescedTick (s : State) : Result := .next (emit .condCoalescedTick none s)

/-- COND COALESCED_START, record 0xC6 (R250). -/
def execCondCoalescedStart (s : State) : Result := .next (emit .condCoalescedStart none s)

/-- COND COALESCED_MATCH, record 0xC7 (R250). -/
def execCondCoalescedMatch (s : State) : Result := .next (emit .condCoalescedMatch none s)

/-- The reason number of a COND FAULT record performed on its own: a free value among the four of R258 (log 14). -/
def freeReasonNumber (s : State) : Nat := (Config.faultRecordReason s.free).val + 1

/-- COND FAULT, record 0xCF (R250): the record only; it is `raise` that stops the model (R258). -/
def execCondFault (s : State) : Result := .next (takeFree (emit .condFault (some (freeReasonNumber s)) s))

end Sys2Proof.Machine
end

