-- ==== Sys2Proof/Machine/Sequencer.lean ====
section
/-! DEFINITION. The motor state machine and its dead-time sequencer (spec/44_motor_sequencer.md): the GO operations start a
transition, SEQ_STEP finishes it. -/

namespace Sys2Proof.Machine

/-- MAKE_SAFE (R192, R193, R194). -/
def makeSafe (g : GoTarget) (s : State) : State :=
  switchOff g.makeSafe.2 (switchOff g.makeSafe.1 s)

/-- The start of a transition: what GO does when it is neither a fault nor a no-op (R191). -/
def startTransition (g : GoTarget) (s : State) : State :=
  writeSeqCnt s.cfg.dead (writePhase .dead1 (writeTgt g.state (makeSafe g (emit g.word none s))))

/-- GO(T) (R191): a fault while busy, a no-op that emits nothing in the target state, else the start of a transition. -/
def go (g : GoTarget) (s : State) : Result :=
  if s.busy then raise .goBusy s
  else if s.motorState = g.state then .next s
  else .next (startTransition g s)

/-- The end of the first dead time of a drive transition (R197): the low side goes on. -/
def endFirstDead (low : SwitchId) (s : State) : State :=
  writeSeqCnt s.cfg.dead (writePhase .dead2 (switchOn low s))

/-- The end of the second dead time of a drive transition, its commit point (R198): the high side goes on. -/
def commitDrive (high : SwitchId) (s : State) : State :=
  writePhase .idle (writeMotorState s.tgt (switchOn high s))

/-- The end of the dead time of a braking transition, its commit point (R199): both low sides go on. -/
def commitBrake (s : State) : State :=
  writeSeqCnt s.cfg.settle (writePhase .settle (writeMotorState .brake (switchOn .bl (switchOn .fl s))))

/-- The end of the settle delay (R200). -/
def endSettle (s : State) : State := writePhase .idle s

/-- What the sequencer does when its counter reaches 0 (R196 to R201). -/
def seqAct (s : State) : Result :=
  match s.phase, s.tgt with
  | .dead1, .fwd => .next (endFirstDead .fl s)
  | .dead1, .bwd => .next (endFirstDead .bl s)
  | .dead2, .fwd => .next (commitDrive .fh s)
  | .dead2, .bwd => .next (commitDrive .bh s)
  | .dead1, .brake => .next (commitBrake s)
  | .settle, .brake => .next (endSettle s)
  | _, _ => raise .seqIllegal s

/-- The test after the countdown (R196): at 0 the sequencer acts. -/
def seqCheck (s : State) : Result := if s.seqCnt ≠ 0 then .next s else seqAct s

/-- SEQ_STEP (R196): the counter goes down; at 0 the sequencer acts. -/
def seqStep (s : State) : Result := seqCheck (seqCntDown (emit .seqStep none s))

/-- GO_FWD, word 0x71 (R191, R192). -/
def execGoFwd (s : State) : Result := go .fwd s

/-- GO_BWD, word 0x72 (R191, R193). -/
def execGoBwd (s : State) : Result := go .bwd s

/-- GO_BRK, word 0x73 (R191, R194). -/
def execGoBrk (s : State) : Result := go .brake s

/-- SEQ_STEP, word 0x84 (R196 to R201). -/
def execSeqStep (s : State) : Result := seqStep s

end Sys2Proof.Machine
end

