-- ==== Sys2Proof/Machine/Arbiter.lean ====
section
/-! DEFINITION. The arbiter (spec/46_arbiter.md): the source's control loop. -/

namespace Sys2Proof.Machine

/-- What the arbiter asks for when the target differs from the actual state (R240): a drive only from Braking, else
Braking first. -/
def arbGoal (target actual : MotorState) : GoTarget :=
  match target, actual with
  | .fwd, .brake => .fwd
  | .bwd, .brake => .bwd
  | _, _ => .brake

/-- The duty reset that stands before a drive transition and not before a braking one (R240, R243). -/
def resetDutyFor (g : GoTarget) (s : State) : State :=
  match g with
  | .fwd => writeDuty 0 s
  | .bwd => writeDuty 0 s
  | .brake => s

/-- What ARB decides (R240): TARGET_STATE, TARGET_POWER and MOTOR_STATE are read at once. -/
def arbDecide (s : State) : Result :=
  if s.targetState = .uninit then raise .targetUninit s
  else if s.targetState ≠ s.motorState then
    go (arbGoal s.targetState s.motorState) (resetDutyFor (arbGoal s.targetState s.motorState) s)
  else .next (writeDuty s.targetPower s)

/-- ARB (R240). -/
def arbitrate (s : State) : Result := arbDecide (emit .arb none s)

/-- ARB, word 0x60 (R240). -/
def execArb (s : State) : Result := arbitrate s

end Sys2Proof.Machine
end

