-- ==== Sys2Proof/Machine/Decoder.lean ====
section
/-! DEFINITION. The RC pulse decoder (spec/42_rc_decoder.md): EDGE_RISE, EDGE_FALL and the edge service. -/

namespace Sys2Proof.Machine

/-- EDGE_RISE (R151): TIME is recorded as the pulse start and the watchdog is reloaded. -/
def edgeRise (s : State) : State :=
  writeWdCnt s.cfg.wdMax (writePulseStart s.time (emit .edgeRise none s))

/-- What EDGE_FALL does with the width it measured (R154): a width outside the band is discarded with no state change
(R155); a valid one writes TARGET_STATE and TARGET_POWER together. -/
def decodeWidth (e : Nat) (s : State) : State :=
  if widthValid s.cfg e then
    writeTargetPower (decodeValid s.cfg e).2 (writeTargetState (decodeValid s.cfg e).1 s)
  else emit .condDiscard (some e) s

/-- EDGE_FALL (R154), measuring the elapsed width (R153). -/
def edgeFall (s : State) : State :=
  decodeWidth (elapsed s) (emit .edgeFall (some (elapsed s)) s)

/-- The edge service (R150): the flag is cleared first (R254), then the level at service time decides. -/
def edgeService (s : State) : State :=
  if s.rcPrev then edgeRise (clearPend .edge s) else edgeFall (clearPend .edge s)

/-- EDGE_RISE, word 0x30 (R151). PEND.EDGE is cleared by the edge service, not here (log 8). -/
def execEdgeRise (s : State) : Result := .next (edgeRise s)

/-- EDGE_FALL, word 0x31 (R154). PEND.EDGE is cleared by the edge service, not here (log 8). -/
def execEdgeFall (s : State) : Result := .next (edgeFall s)

end Sys2Proof.Machine
end

