-- ==== Sys2Proof/Machine/Pwm.lean ====
section
/-! DEFINITION. The PWM modulator's two services (spec/45_pwm.md). -/

namespace Sys2Proof.Machine

/-- What PWM_START decides (R220): with a duty above 0, the high side of the direction being driven is turned on. -/
def highSideOn (s : State) : State :=
  if 0 < s.dutySh then
    match s.motorState with
    | .fwd => switchOn .fh s
    | .bwd => switchOn .bh s
    | .brake => s
    | .uninit => s
  else s

/-- PWM_START (R220): its flag is cleared first (R254). -/
def pwmStartService (s : State) : State := highSideOn (emit .pwmStart none (clearPend .start s))

/-- What PWM_MATCH decides (R222): with a duty below the maximum and not Braking, both high sides are turned off. -/
def highSidesOff (s : State) : State :=
  if s.dutySh < s.cfg.dutyMax ∧ s.motorState ≠ .brake then switchOff .bh (switchOff .fh s)
  else s

/-- PWM_MATCH (R222): its flag is cleared first (R254). -/
def pwmMatchService (s : State) : State := highSidesOff (emit .pwmMatch none (clearPend .pwmMatch s))

/-- PWM_START, word 0x50 (R220). -/
def execPwmStart (s : State) : Result := .next (pwmStartService s)

/-- PWM_MATCH, word 0x51 (R222). -/
def execPwmMatch (s : State) : Result := .next (pwmMatchService s)

end Sys2Proof.Machine
end

