-- ==== Sys2Proof/Machine/Watchdog.lean ====
section
/-! DEFINITION. The watchdog (spec/43_watchdog.md). -/

namespace Sys2Proof.Machine

/-- What TICK decides (R180): at 0 and not yet Braking, the target is forced to Braking; else the counter goes down,
saturating at 0. -/
def watchdog (s : State) : State :=
  if s.wdCnt = 0 ∧ s.motorState ≠ .brake then
    emit .condWdForce none (writeTargetState .brake s)
  else if 0 < s.wdCnt then writeWdCnt (s.wdCnt - 1) s
  else s

/-- TICK (R180): its flag is cleared first (R254). -/
def tickService (s : State) : State := watchdog (emit .tick none (clearPend .tick s))

/-- TICK, word 0x40 (R180). -/
def execTick (s : State) : Result := .next (tickService s)

end Sys2Proof.Machine
end

