-- ==== Sys2Proof/Machine/Cycle.lean ====
section
/-! DEFINITION. The cycle and the four micro-operations that run in every cycle (spec/40_cycle.md), and the event dispatch
of an idle cycle (spec/60_exceptions.md R255). -/

namespace Sys2Proof.Machine

/-- SAMPLE (R122), its record stamped `t` (log 4): an edge is any change of level from RC_PREV. -/
def sampleInput (t : Nat) (s : State) : State :=
  writeRcPrev s.rcIn (setEvent .edge (s.rcIn != s.rcPrev) (emitAt t .sample none s))

/-- A tick occurs where TB_ADV leaves `TIME mod 2^P_TICK_SHIFT = 0` (R124). -/
def isTick (c : Config.Params) (time : Nat) : Bool := time % 2 ^ c.tickShift == 0

/-- TB_ADV (R123, R124), its record stamped with the TIME it leaves (R94, log 4). -/
def advanceTime (s : State) : State :=
  setEvent .tick (isTick s.cfg (nextTime s)) (writeTime (nextTime s) (emitAt (nextTime s) .tbAdv none s))

/-- The counting half of PWM_ADV (R125): at the end of the period the counter wraps, the duty's copy is loaded and a cycle
start occurs; else the counter goes up. -/
def countPwm (s : State) : State :=
  if s.pwmCnt = s.cfg.pwmPeriod - 1 then
    setEvent .start true (writeDutySh s.duty (writePwmCnt 0 s))
  else setEvent .start false (pwmCntUp s)

/-- The comparing half of PWM_ADV (R125): the match is taken against the new PWM_CNT and the new DUTY_SH. -/
def comparePwm (s : State) : State := setEvent .pwmMatch (s.pwmCnt == s.dutySh) s

/-- PWM_ADV (R125). -/
def advancePwm (s : State) : State := comparePwm (countPwm (emit .pwmAdv none s))

/-- LATCH for one source (R126): a flag already set stays set, and the lost occurrence is recorded. -/
def latchSource (k : EventSource) (s : State) : State :=
  if s.ev.get k then
    setPend k (if s.pend.get k then emit k.coalesced none s else s)
  else s

/-- LATCH (R126): the four sources in the order EDGE, TICK, START, MATCH. -/
def latchEvents (s : State) : State :=
  latchSource .pwmMatch (latchSource .start (latchSource .tick (latchSource .edge (emit .latch none s))))

/-- One test of SERVICE: the service runs if its flag is set (R255). -/
def serviceIf (k : EventSource) (service : State → State) (s : State) : State :=
  if s.pend.get k then service s else s

/-- SERVICE (R255): EDGE, TICK, START, MATCH, each test reading PEND as the earlier services left it. -/
def serviceEvents (s : State) : State :=
  serviceIf .pwmMatch pwmMatchService
    (serviceIf .start pwmStartService
      (serviceIf .tick tickService
        (serviceIf .edge edgeService s)))

/-- The micro-operations of a cycle that run busy or idle, up to LATCH (R120, R121). -/
def cycleFront (s : State) : State :=
  latchEvents (advancePwm (advanceTime (sampleInput (nextTime s)
    (emitAt (nextTime s) .cycle (some s.rcIn.toNat) (beginPeriod s)))))

/-- SEQ_STEP if the cycle begins busy (R120). -/
def cycleSeq (s : State) : Result := if s.busy then seqStep s else .next s

/-- SERVICE and ARB if the block is idle here (R120, R253); the end of a transition is already idle. -/
def cycleIdle (s : State) : Result := if s.busy then .next s else arbitrate (serviceEvents s)

/-- CYCLE (R120): one period of the count clock with `rst = 0`, at the level of `rc_in` in this period. -/
def runCycle (s : State) : Result :=
  andThen (andThen (cycleSeq (cycleFront s)) cycleIdle) fun s => .next (endCycle s)

/-- SAMPLE, word 0x80 (R122). -/
def execSample (s : State) : Result := .next (sampleInput s.time s)

/-- TB_ADV, word 0x81 (R123). -/
def execTbAdv (s : State) : Result := .next (advanceTime s)

/-- PWM_ADV, word 0x82 (R125). -/
def execPwmAdv (s : State) : Result := .next (advancePwm s)

/-- LATCH, word 0x83 (R126). -/
def execLatch (s : State) : Result := .next (latchEvents s)

/-- CYCLE, word 0x90 (R120). -/
def execCycle (s : State) : Result := runCycle s

end Sys2Proof.Machine
end

