-- ==== Sys2Proof/Machine/ResetOp.lean ====
section
/-! DEFINITION. RESET (spec/70_reset_and_hazards.md R280): a period of the count clock with `rst = 1`. -/

namespace Sys2Proof.Machine

/-- Every register at its reset value (R280, and the reset column of spec/10_state.md section 2). -/
def resetRegisters (s : State) : State :=
  { s with
    time := 0, pulseStart := 0, wdCnt := 0
    targetState := .brake, targetPower := 0
    motorState := .uninit
    duty := 0, dutySh := 0, pwmCnt := 0
    sw := Switches.off
    rcPrev := false, pend := Events.none
    phase := .idle, tgt := .uninit, seqCnt := 0 }

/-- RESET (R280): legal in any state; `rc_in` is not sampled; the trace is not hardware state and goes on (R94, log 3). -/
def resetBlock (s : State) : State :=
  emit .reset none (endCycle { resetRegisters (beginPeriod s) with started := true })

/-- RESET, word 0xF0 (R280). -/
def execReset (s : State) : Result := .next (resetBlock s)

end Sys2Proof.Machine
end

