-- ==== Sys2Proof/Machine/Stimulus.lean ====
section
/-! DEFINITION. The stimulus words (spec/30_encoding.md R90, R91). -/

namespace Sys2Proof.Machine

/-- `n` consecutive CYCLE steps with the state's level of `rc_in` (R90); the first fault ends them (R258). -/
def runCycles : Nat → State → Result
  | 0, s => .next s
  | n + 1, s =>
    match runCycle s with
    | .next s' => runCycles n s'
    | .fault f => .fault f
    | .refused q => .refused q

/-- STIM RESET, word 0x00000000 (R91): one RESET step. -/
def execStimReset (s : State) : Result := .next (resetBlock s)

/-- STIM RUN (R90): COUNT consecutive CYCLE steps with `rc_in` at LEVEL and `rst` at 0 (log 19). -/
def execStimRun (level : Bool) (count : BitVec 31) (s : State) : Result :=
  runCycles count.toNat (driveRc level s)

end Sys2Proof.Machine
end

