-- ==== Sys2Proof/Machine/Switching.lean ====
section
/-! DEFINITION. SW_ON and SW_OFF (spec/41_switches.md R140, R141): the four switches, each settable on and off; no
condition is checked and no fault arises. -/

namespace Sys2Proof.Machine

/-- SW_OFF FH, word 0x10 (R141). -/
def execSwOffFh (s : State) : Result := .next (switchOff .fh s)

/-- SW_OFF FL, word 0x11 (R141). -/
def execSwOffFl (s : State) : Result := .next (switchOff .fl s)

/-- SW_OFF BH, word 0x12 (R141). -/
def execSwOffBh (s : State) : Result := .next (switchOff .bh s)

/-- SW_OFF BL, word 0x13 (R141). -/
def execSwOffBl (s : State) : Result := .next (switchOff .bl s)

/-- SW_ON FH, word 0x20 (R140). -/
def execSwOnFh (s : State) : Result := .next (switchOn .fh s)

/-- SW_ON FL, word 0x21 (R140). -/
def execSwOnFl (s : State) : Result := .next (switchOn .fl s)

/-- SW_ON BH, word 0x22 (R140). -/
def execSwOnBh (s : State) : Result := .next (switchOn .bh s)

/-- SW_ON BL, word 0x23 (R140). -/
def execSwOnBl (s : State) : Result := .next (switchOn .bl s)

end Sys2Proof.Machine
end

