-- ==== Sys2Proof/Machine/Dispatch.lean ====
section
/-! DEFINITION. One arm per constructor of Instr, each one direct call of its meaning. -/

namespace Sys2Proof.Machine

def exec (i : Instr) (s : State) : Host.Outcome State Fault Refusal :=
  match i with
  | .swOffFh => Sys2Proof.Machine.execSwOffFh s
  | .swOffFl => Sys2Proof.Machine.execSwOffFl s
  | .swOffBh => Sys2Proof.Machine.execSwOffBh s
  | .swOffBl => Sys2Proof.Machine.execSwOffBl s
  | .swOnFh => Sys2Proof.Machine.execSwOnFh s
  | .swOnFl => Sys2Proof.Machine.execSwOnFl s
  | .swOnBh => Sys2Proof.Machine.execSwOnBh s
  | .swOnBl => Sys2Proof.Machine.execSwOnBl s
  | .edgeRise => Sys2Proof.Machine.execEdgeRise s
  | .edgeFall => Sys2Proof.Machine.execEdgeFall s
  | .tick => Sys2Proof.Machine.execTick s
  | .pwmStart => Sys2Proof.Machine.execPwmStart s
  | .pwmMatch => Sys2Proof.Machine.execPwmMatch s
  | .arb => Sys2Proof.Machine.execArb s
  | .goFwd => Sys2Proof.Machine.execGoFwd s
  | .goBwd => Sys2Proof.Machine.execGoBwd s
  | .goBrk => Sys2Proof.Machine.execGoBrk s
  | .sample => Sys2Proof.Machine.execSample s
  | .tbAdv => Sys2Proof.Machine.execTbAdv s
  | .pwmAdv => Sys2Proof.Machine.execPwmAdv s
  | .latch => Sys2Proof.Machine.execLatch s
  | .seqStep => Sys2Proof.Machine.execSeqStep s
  | .cycle => Sys2Proof.Machine.execCycle s
  | .reset => Sys2Proof.Machine.execReset s
  | .condDiscard => Sys2Proof.Machine.execCondDiscard s
  | .condWdForce => Sys2Proof.Machine.execCondWdForce s
  | .condCoalescedEdge => Sys2Proof.Machine.execCondCoalescedEdge s
  | .condCoalescedTick => Sys2Proof.Machine.execCondCoalescedTick s
  | .condCoalescedStart => Sys2Proof.Machine.execCondCoalescedStart s
  | .condCoalescedMatch => Sys2Proof.Machine.execCondCoalescedMatch s
  | .condFault => Sys2Proof.Machine.execCondFault s
  | .stimReset => Sys2Proof.Machine.execStimReset s
  | .stimRun level count => Sys2Proof.Machine.execStimRun level count s

end Sys2Proof.Machine
end

