-- ==== Sys2Proof/Machine/Parameters.lean ====
section
/-! DEFINITION. When a configuration record is well formed (spec/00_scope.md R12), and the reading of cycle counts as time
(R10, R295). -/

namespace Sys2Proof

/-- R12, line 1: the pulse band. `P_PW_DZ ≥ 0` holds of every natural number. -/
def Config.Params.bandOk (c : Config.Params) : Bool :=
  0 < c.pwMin && c.pwMin + c.pwDz < c.pwMid && c.pwMid + c.pwDz < c.pwMax && c.pwMax < 2 ^ c.timeW

/-- R12, line 2: the sequencer's delays fit its counter. -/
def Config.Params.delaysOk (c : Config.Params) : Bool :=
  1 ≤ c.dead && c.dead < 2 ^ c.seqW && 1 ≤ c.settle && c.settle < 2 ^ c.seqW

/-- R12, line 3: the watchdog maximum fits its counter. -/
def Config.Params.watchdogOk (c : Config.Params) : Bool :=
  1 ≤ c.wdMax && c.wdMax < 2 ^ c.wdW

/-- R12, line 4: the tick lies inside the time counter. -/
def Config.Params.tickOk (c : Config.Params) : Bool :=
  1 ≤ c.tickShift && c.tickShift < c.timeW

/-- R12, line 5: power, duty and the PWM period. -/
def Config.Params.pwmOk (c : Config.Params) : Bool :=
  c.powerMax == 255 && c.dutyMax == 255 && 2 ≤ c.pwmPeriod && c.pwmPeriod ≤ 256

/-- A configuration is well formed only if all lines of R12 hold. -/
def Config.Params.wf (c : Config.Params) : Bool :=
  c.bandOk && c.delaysOk && c.watchdogOk && c.tickOk && c.pwmOk

/-- A duration in nanoseconds (R10, R295): T_CNT enters here and nowhere else. -/
def Config.Params.nanoseconds (c : Config.Params) (cycles : Nat) : Nat := cycles * c.tCntNs

/-- Cycles a drive transition keeps the block busy (R202, R287). -/
def Config.Params.driveCycles (c : Config.Params) : Nat := 2 * c.dead

/-- Cycles a braking transition keeps the block busy (R202, R287). -/
def Config.Params.brakeCycles (c : Config.Params) : Nat := c.dead + c.settle

/-- Cycles between two ticks (R124). -/
def Config.Params.tickCycles (c : Config.Params) : Nat := 2 ^ c.tickShift

end Sys2Proof
end

