-- ==== Sys2Proof/Machine/Fetch.lean ====
section
/-! DEFINITION. Where the next instruction comes from. The block fetches nothing (spec/20_memory.md R69): an operation word
is a request to the model, a stimulus word drives the inputs (spec/30_encoding.md R80), and without either the clock runs on
with whatever the world outside drives (spec/60_exceptions.md R268). -/

namespace Sys2Proof.Machine

/-- What there is to perform next, with the state it is performed in. -/
inductive Fetched where
  /-- an instruction -/
  | instr (i : Instr) (s : State)
  /-- a request to perform a reserved operation word (R89) -/
  | reservedOp (s : State)
  /-- the reserved stimulus word (R91) -/
  | reservedStim
deriving DecidableEq, Repr

/-- Take the first operation word off its queue; `rc_in` has the request's level (log 5). -/
def fetchOp (r : OpRequest) (rest : List OpRequest) (s : State) : Fetched :=
  let s := { s with ops := rest, rcIn := r.rc }
  match decodeOp r.word with
  | .ok i => .instr i s
  | .error _ => .reservedOp s

/-- Take the first stimulus word off its queue. -/
def fetchStim (w : StimWord) (rest : List StimWord) (s : State) : Fetched :=
  match decodeStim w with
  | .ok i => .instr i { s with stims := rest }
  | .error _ => .reservedStim

/-- No word is given: one more period of the clock (R268), with `rc_in` and `rst` at any level (log 6). A period with
`rst = 1` is RESET, one with `rst = 0` is CYCLE (R43). -/
def fetchFree (s : State) : Fetched :=
  .instr (if Config.rstLevel s.free then .reset else .cycle)
    (takeFree (driveRc (Config.rcInLevel s.free) s))

/-- The next instruction: the two streams are never mixed (R80), and the operation words come first (log 5). -/
def fetch (s : State) : Fetched :=
  match s.ops with
  | r :: rest => fetchOp r rest s
  | [] =>
    match s.stims with
    | w :: rest => fetchStim w rest s
    | [] => fetchFree s

/-- A stimulus program that may be started: it does not hold the reserved word 0x80000000 (R91). -/
def stimsOk (ws : List StimWord) : Bool := ws.all fun w => w != 0x80000000

/-- RESET in either stream. -/
def isReset (i : Instr) : Bool := i == .reset || i == .stimReset

/-- A run starts from RESET (R46): before the first one, only RESET may be performed. -/
def mayPerform (i : Instr) (s : State) : Bool := s.started || isReset i

end Sys2Proof.Machine
end

