-- ==== Sys2Proof/Machine/Trace.lean ====
section
/-! DEFINITION. The trace as text and as a request (spec/30_encoding.md R93, R94, R96; spec/60_exceptions.md R250). -/

namespace Sys2Proof.Machine

/-- The mnemonic of an operation or a condition record, as a trace prints it (R93); for a stimulus word, the statement of
R92 that it stands for. -/
def mnemonic : Instr → String
  | .swOffFh => "SW_OFF FH"
  | .swOffFl => "SW_OFF FL"
  | .swOffBh => "SW_OFF BH"
  | .swOffBl => "SW_OFF BL"
  | .swOnFh => "SW_ON FH"
  | .swOnFl => "SW_ON FL"
  | .swOnBh => "SW_ON BH"
  | .swOnBl => "SW_ON BL"
  | .edgeRise => "EDGE_RISE"
  | .edgeFall => "EDGE_FALL"
  | .tick => "TICK"
  | .pwmStart => "PWM_START"
  | .pwmMatch => "PWM_MATCH"
  | .arb => "ARB"
  | .goFwd => "GO_FWD"
  | .goBwd => "GO_BWD"
  | .goBrk => "GO_BRK"
  | .sample => "SAMPLE"
  | .tbAdv => "TB_ADV"
  | .pwmAdv => "PWM_ADV"
  | .latch => "LATCH"
  | .seqStep => "SEQ_STEP"
  | .cycle => "CYCLE"
  | .reset => "RESET"
  | .condDiscard => "COND DISCARD"
  | .condWdForce => "COND WD_FORCE"
  | .condCoalescedEdge => "COND COALESCED_EDGE"
  | .condCoalescedTick => "COND COALESCED_TICK"
  | .condCoalescedStart => "COND COALESCED_START"
  | .condCoalescedMatch => "COND COALESCED_MATCH"
  | .condFault => "COND FAULT"
  | .stimReset => "RESET"
  | .stimRun level count => "RUN " ++ toString level.toNat ++ ", " ++ toString count.toNat

/-- A trace line, `<t>: <mnemonic> [<payload>]` (R93; the brackets mark the payload as optional, log 25). None where the
record's word is reserved. -/
def Record.line (r : Record) : Option String :=
  match decodeOp r.word with
  | .error _ => none
  | .ok i =>
    some (toString r.t ++ ": " ++ mnemonic i ++
      (match r.payload with
        | none => ""
        | some p => " " ++ toString p))

/-- A record of the switch-level event order: its CLASS is 0x1 or 0x2 (R96). -/
def Record.isSwitch (r : Record) : Bool := opClass r.word == 1 || opClass r.word == 2

/-- The switch-level event order (R96): the sub-sequence of switch records, oldest first. -/
def State.switchLog (s : State) : List Record := s.log.filter Record.isSwitch

/-- A reserved condition code: CLASS 0xC with no row (R250, R89). -/
def reservedConditionWord (w : OpWord) : Bool :=
  opClass w == 0xC && (decodeOp w).toOption.isNone

/-- A trace is well formed when none of its records holds a reserved condition code (R250). -/
def traceOk (tr : List Record) : Bool := tr.all fun r => !reservedConditionWord r.word

/-- The requests that perform a trace's words again, oldest record first: a CYCLE record's payload is the level of `rc_in`
from there on (R94). DESIGN CHOICE (log 17), since R89 names replaying a trace and gives no procedure: a CYCLE record
with no payload, or with one other than 0 or 1, is performed at `rc_in` low, and the words before the first CYCLE record are
performed at the level given, the state's present one. Every record's word is queued, and no stamp or other payload is used. -/
def requestsOf : Bool → List Record → List OpRequest
  | _, [] => []
  | rc, r :: rs =>
    let rc' := if r.word = recordWord .cycle then r.payload == some 1 else rc
    ⟨r.word, rc'⟩ :: requestsOf rc' rs

/-- Queue a trace for performing its words directly (R89); a malformed trace is refused (R250). -/
def loadTrace (tr : List Record) (s : State) : Result :=
  if traceOk tr then .next { s with ops := s.ops ++ requestsOf s.rcIn tr }
  else .refused .malformedTrace

end Sys2Proof.Machine
end

