-- ==== Sys2Proof/Machine/Step.lean ====
section
/-! DEFINITION. One step: the refusals of spec/60_exceptions.md R258, then the next instruction. -/

namespace Sys2Proof.Machine

/-- One step. A configuration that breaks R12, a stimulus program with the reserved word and a run that does not start
from RESET are refused; a reserved operation word is a fault (R89, R258); else the instruction fetched is performed. -/
def step (s : State) : Host.Outcome State Fault Refusal :=
  if !s.cfg.wf then .refused .illFormedConfig
  else if !stimsOk s.stims then .refused .reservedStimulus
  else
    match fetch s with
    | .instr i s' => if mayPerform i s' then exec i s' else .refused .notFromReset
    | .reservedOp s' => if s'.started then raise .reservedWord s' else .refused .notFromReset
    | .reservedStim => .refused .reservedStimulus

/-- The state whose next step performs the instruction with these bits: an operation word goes to the head of its queue,
with `rc_in` as it is; a stimulus word goes to the head of its queue, and no operation word stands before it (log 5). -/
def State.withFetchWord (s : State) (nbits w : Nat) : State :=
  match streamWordOf nbits w with
  | some (.op o) => { s with ops := ⟨o, s.rcIn⟩ :: s.ops }
  | some (.stim x) => { s with ops := [], stims := x :: s.stims }
  | none => s

end Sys2Proof.Machine
end

