-- ==== Sys2Proof/Safety.lean ====
section
/-! DEFINITION. What counts as a safe run, in the terms the statements use: the reachable switch states of R206, the
invariant of a cycle boundary, the widths of the registers, the access matrix of R38, runs over given input levels, and the
switch banks along a trace (R205, R96). -/

namespace Sys2Proof.Machine

/-! ### The reachable switch states (R206) -/

/-- SW = 0b1010: FL and BL on, the braking configuration. -/
def Switches.braking : Switches := ⟨false, true, false, true⟩

/-- SW = 0b0010: FL on. -/
def Switches.fwdLow : Switches := ⟨false, true, false, false⟩

/-- SW = 0b0011: FL and FH on. -/
def Switches.fwdBoth : Switches := ⟨true, true, false, false⟩

/-- SW = 0b1000: BL on. -/
def Switches.bwdLow : Switches := ⟨false, false, false, true⟩

/-- SW = 0b1100: BL and BH on. -/
def Switches.bwdBoth : Switches := ⟨false, false, true, true⟩

/-- The rows of R206: which switch bank goes with which MOTOR_STATE, PHASE and TGT at a cycle boundary. -/
def bankRow (m : MotorState) (p : Phase) (t : MotorState) (w : Switches) : Bool :=
  match m, p, t with
  | .uninit, .idle, _ => w == Switches.off
  | .uninit, .dead1, .brake => w == Switches.off
  | .brake, .settle, .brake => w == Switches.braking
  | .brake, .idle, _ => w == Switches.braking
  | .brake, .dead1, .fwd => w == Switches.fwdLow
  | .brake, .dead2, .fwd => w == Switches.fwdLow
  | .brake, .dead1, .bwd => w == Switches.bwdLow
  | .brake, .dead2, .bwd => w == Switches.bwdLow
  | .fwd, .idle, _ => w == Switches.fwdLow || w == Switches.fwdBoth
  | .fwd, .dead1, .brake => w == Switches.fwdLow
  | .bwd, .idle, _ => w == Switches.bwdLow || w == Switches.bwdBoth
  | .bwd, .dead1, .brake => w == Switches.bwdLow
  | _, _, _ => false

/-! ### The boundary invariant -/

/-- Every register holds one of its legal values (the table of spec/10_state.md section 2). -/
def State.allLegal (s : State) : Bool := Reg.all.all s.legal

/-- The sequencer's counter: at least 1 and at most the delay of its phase while busy (R196, R264); while idle 0, with TGT
the state last committed (spec/93) and no flag pending (R255). -/
def State.seqOk (s : State) : Bool :=
  match s.phase with
  | .idle => s.seqCnt == 0 && s.tgt == s.motorState && s.pend == Events.none
  | .dead1 => 1 ≤ s.seqCnt && s.seqCnt ≤ s.cfg.dead
  | .dead2 => 1 ≤ s.seqCnt && s.seqCnt ≤ s.cfg.dead
  | .settle => 1 ≤ s.seqCnt && s.seqCnt ≤ s.cfg.settle

/-- The state of the block at a cycle boundary of a run from RESET (R46, R206): a well-formed configuration, legal
registers, a row of R206, and nothing left of the last cycle but the registers (R20). -/
def State.boundary (s : State) : Bool :=
  s.cfg.wf && s.allLegal && bankRow s.motorState s.phase s.tgt s.sw && s.seqOk && s.ev == Events.none && s.started

/-- A boundary state of a run that is driven by its inputs alone: no operation word is to be performed directly, and the
stimulus program may be started (R91). -/
def State.driven (s : State) : Bool := s.boundary && s.ops.isEmpty && stimsOk s.stims

/-! ### The widths -/

/-- The value of every register fits its width (R13). -/
def State.fits (s : State) : Bool := Reg.all.all fun r => s.read r < 2 ^ r.width s.cfg

/-- What every operation keeps, in whatever order the operation words are performed: a well-formed configuration, the
widths, WD_CNT within its maximum (R24) and TARGET_STATE never Uninitialized (R25). -/
def State.sound (s : State) : Bool :=
  s.cfg.wf && s.fits && s.wdCnt ≤ s.cfg.wdMax && s.targetState != .uninit

/-! ### The access matrix -/

/-- The registers marked W in the row of a micro-operation (R38); for ARB those of the GO it performs as well (R240); the
whole register file for the operations that R38 has no row for because they perform others. -/
def mayWrite : Instr → List Reg
  | .swOffFh | .swOffFl | .swOffBh | .swOffBl | .swOnFh | .swOnFl | .swOnBh | .swOnBl => [.sw]
  | .edgeRise => [.pulseStart, .wdCnt, .pend]
  | .edgeFall => [.targetState, .targetPower, .pend]
  | .tick => [.wdCnt, .targetState, .pend]
  | .pwmStart | .pwmMatch => [.sw, .pend]
  | .arb => [.duty, .sw, .seq, .seqCnt]
  | .goFwd | .goBwd | .goBrk => [.sw, .seq, .seqCnt]
  | .sample => [.rcPrev]
  | .tbAdv => [.time]
  | .pwmAdv => [.dutySh, .pwmCnt]
  | .latch => [.pend]
  | .seqStep => [.motorState, .sw, .seq, .seqCnt]
  | .condDiscard | .condWdForce | .condCoalescedEdge | .condCoalescedTick | .condCoalescedStart
  | .condCoalescedMatch | .condFault => []
  | .cycle | .reset | .stimReset | .stimRun _ _ => Reg.all

/-! ### Runs over given input levels -/

/-- One CYCLE for each level of `rc_in` in the list, in order (R120, R20: the stimulus is the argument of each step). -/
def runLevels : List Bool → State → Result
  | [], s => .next s
  | b :: bs, s => andThen (exec .cycle (driveRc b s)) (runLevels bs)

/-- One instruction performed `n` times in a row. -/
def repeatInstr : Nat → Instr → State → Result
  | 0, _, s => .next s
  | n + 1, i, s => andThen (exec i s) (repeatInstr n i)

/-! ### A cycle as its operation words -/

/-- Perform an instruction if a condition holds of the state. -/
def performIf (c : State → Bool) (i : Instr) (s : State) : Result := if c s then exec i s else .next s

/-- EDGE_SERVICE as operation words (R150): the flag is cleared, then the level decides between the two words. -/
def edgeServiceByWords (s : State) : Result :=
  if s.pend.edge then exec (if s.rcPrev then .edgeRise else .edgeFall) (clearPend .edge s) else .next s

/-- The cycle of R120 and R121 written as a sequence of operation words: SAMPLE, TB_ADV, PWM_ADV, LATCH; SEQ_STEP if busy;
then if idle the services of R255 and ARB. -/
def cycleByWords (s : State) : Result :=
  andThen (exec .sample (beginPeriod s)) fun s =>
  andThen (exec .tbAdv s) fun s =>
  andThen (exec .pwmAdv s) fun s =>
  andThen (exec .latch s) fun s =>
  andThen (performIf State.busy .seqStep s) fun s =>
  andThen (if s.busy then .next s else
    andThen (edgeServiceByWords s) fun s =>
    andThen (performIf (·.pend.tick) .tick s) fun s =>
    andThen (performIf (·.pend.start) .pwmStart s) fun s =>
    andThen (performIf (·.pend.pwmMatch) .pwmMatch s) fun s =>
    exec .arb s) fun s =>
  .next (endCycle s)

/-- An outcome without its traces. -/
def forgetTrace : Result → Result
  | .next s => .next { s with trace := [] }
  | .fault (.reservedWord s) => .fault (.reservedWord { s with trace := [] })
  | .fault (.seqIllegal s) => .fault (.seqIllegal { s with trace := [] })
  | .fault (.targetUninit s) => .fault (.targetUninit { s with trace := [] })
  | .fault (.goBusy s) => .fault (.goBusy { s with trace := [] })
  | .refused q => .refused q

/-! ### The switch banks along a trace -/

/-- The bank after a record: only a switch record changes it (R96). -/
def bankAfter (w : Switches) (r : Record) : Switches :=
  match decodeOp r.word with
  | .ok .swOffFh => w.set .fh false
  | .ok .swOffFl => w.set .fl false
  | .ok .swOffBh => w.set .bh false
  | .ok .swOffBl => w.set .bl false
  | .ok .swOnFh => w.set .fh true
  | .ok .swOnFl => w.set .fl true
  | .ok .swOnBh => w.set .bh true
  | .ok .swOnBl => w.set .bl true
  | _ => w

/-- The banks after each of a list of records, oldest first, starting from a bank. -/
def banksAlong : Switches → List Record → List Switches
  | _, [] => []
  | w, r :: rs => bankAfter w r :: banksAlong (bankAfter w r) rs

/-! ### Reserved words -/

/-- The reserved operation words of R89, range by range. -/
def reservedRanges : List (Nat × Nat) :=
  [(0x00, 0x0F), (0x14, 0x1F), (0x24, 0x2F), (0x32, 0x3F), (0x41, 0x4F), (0x52, 0x5F), (0x61, 0x6F), (0x70, 0x70),
   (0x74, 0x7F), (0x85, 0x8F), (0x91, 0xBF), (0xC0, 0xC0), (0xC3, 0xC3), (0xC8, 0xCE), (0xD0, 0xEF), (0xF1, 0xFF)]

/-- A word in one of the ranges of R89. -/
def inReservedRange (w : OpWord) : Bool := reservedRanges.any fun r => r.1 ≤ w.toNat && w.toNat ≤ r.2

end Sys2Proof.Machine
end

