-- ==== Sys2Proof/Certificates/Slice0/Obligations.lean ====
section
/-! DEFINITION. The statements for the provers. Each docstring names the rules of spec/ it formalises, and the log entry of
every choice of the model's own that it rests on. Throughout, `trace` holds the records newest first and a fault carries the
state the model stopped in: ways of writing down what the rules say (log 3, log 18). -/

open Sys2Proof Sys2Proof.Machine

/-! ### Encoding -/

/-- Words written out from R83 to R86, R85 and R90 decode to what they stand for (vectors V1 to V3 and V6
to V16; of V10, V11, V14 and V16 that the word is reserved). -/
def Obligations.WrittenWordsDecodeToTheirRows : Prop :=
  decodeTableWord 8 0b00010011 = some .swOffBl ∧ decodeTableWord 8 0b00100010 = some .swOnBh ∧
  decodeTableWord 8 0b00110001 = some .edgeFall ∧ decodeTableWord 8 0b01000000 = some .tick ∧
  decodeTableWord 8 0b01010001 = some .pwmMatch ∧ decodeTableWord 8 0b01100000 = some .arb ∧
  decodeTableWord 8 0b01110011 = some .goBrk ∧ decodeTableWord 8 0b10000100 = some .seqStep ∧
  decodeTableWord 8 0b10010000 = some .cycle ∧ decodeTableWord 8 0b11110000 = some .reset ∧
  decodeTableWord 8 0b11000101 = some .condCoalescedTick ∧
  decodeTableWord 8 0b01110000 = none ∧ decodeTableWord 8 0b00010100 = none ∧ decodeTableWord 8 0b11000011 = none ∧
  decodeTableWord 8 0b11111111 = none ∧
  decodeTableWord 32 0x00000000 = some .stimReset ∧ decodeTableWord 32 0x00000BB8 = some (.stimRun false 3000) ∧
  decodeTableWord 32 0x800001C2 = some (.stimRun true 450) ∧
  decodeTableWord 32 0xFFFFFFFF = some (.stimRun true 2147483647) ∧ decodeTableWord 32 0x80000000 = none

/-- Decoding and encoding are each other's inverse, in both streams: a word decodes to an instruction exactly when the
instruction is well formed and encodes to that word (R81 to R91, R97). -/
def Obligations.DecodesExactlyWhatEncodes : Prop :=
  ∀ (w : StreamWord) (i : Instr), decode w = .ok i ↔ (i.wf = true ∧ encode i = w)

/-- R89: the operation words that no instruction has are those of the listed ranges, and performing one raises
Fault(RESERVED_WORD): the record COND FAULT with reason 1, and no register changed. That a word to be performed stands in the
queue `ops` is the model's (log 5). -/
def Obligations.ReservedOperationWordsFault : Prop :=
  (∀ w : OpWord, (decodeOp w).toOption = none ↔ inReservedRange w = true) ∧
  (∀ (s : State) (r : OpRequest) (rest : List OpRequest),
    s.cfg.wf = true → stimsOk s.stims = true → s.started = true → s.ops = r :: rest → inReservedRange r.word = true →
    step s = .fault (.reservedWord
      { s with ops := rest, rcIn := r.rc, trace := ⟨s.time, 0xCF, some 1⟩ :: s.trace }))

/-- R91: the stimulus word 0 performs one RESET step, and a program that holds 0x80000000 anywhere is refused at once (the
queue `stims` is the model's, log 5; the refusal at once is its reading, log 16). -/
def Obligations.ZeroStimulusResetsAndReservedStimulusIsRefused : Prop :=
  (∀ (s : State) (rest : List StimWord),
    s.cfg.wf = true → s.ops = [] → s.stims = 0x00000000 :: rest → stimsOk rest = true →
    step s = exec .reset { s with stims := rest }) ∧
  (∀ s : State, s.cfg.wf = true → 0x80000000 ∈ s.stims → step s = .refused .reservedStimulus)

/-- R92: statements and pseudo-instructions assemble to the words of the vectors V1 to V5 and V7, and a count of 0 or of
2^31 has no word. The text reader's treatment of blanks is the model's (log 23); it is not used here. -/
def Obligations.AssemblyGivesTheVectorsWords : Prop :=
  assemble [.reset] = some [0x00000000] ∧ assemble [.low 3000] = some [0x00000BB8] ∧
  assemble [.high 450] = some [0x800001C2] ∧ assemble [.frame 450] = some [0x800001C2, 0x000011C6] ∧
  assemble [.frame 300] = some [0x8000012C, 0x0000125C] ∧ assemble [.run true 2147483647] = some [0xFFFFFFFF] ∧
  assemble [.run false 0] = none ∧ assemble [.run true 2147483648] = none

/-- R250: a trace that holds a reserved condition code (0xC0, 0xC3, 0xC8 to 0xCE) is refused, and only such a trace. That
a trace is read in order to perform its words again is the model's choice (log 17). -/
def Obligations.OnlyMalformedTracesAreRefused : Prop :=
  ∀ (tr : List Record) (s : State),
    loadTrace tr s = .refused .malformedTrace ↔
      ∃ r ∈ tr, r.word = 0xC0 ∨ r.word = 0xC3 ∨ (0xC8 ≤ r.word ∧ r.word ≤ 0xCE)

/-! ### The step -/

/-- A step runs the decoded instruction: the first operation word, else the first stimulus word, is decoded and performed on
the state with the word taken off its queue (R80, R90; log 5). -/
def Obligations.StepRunsTheDecodedInstruction : Prop :=
  (∀ (s : State) (r : OpRequest) (rest : List OpRequest) (i : Instr),
    s.cfg.wf = true → stimsOk s.stims = true → s.started = true → s.ops = r :: rest → decodeOp r.word = .ok i →
    step s = exec i { s with ops := rest, rcIn := r.rc }) ∧
  (∀ (s : State) (w : StimWord) (rest : List StimWord) (i : Instr),
    s.cfg.wf = true → stimsOk s.stims = true → s.started = true → s.ops = [] → s.stims = w :: rest →
    decodeStim w = .ok i →
    step s = exec i { s with stims := rest }) ∧
  (∀ (s : State) (w : Nat) (i : Instr),
    s.cfg.wf = true → stimsOk s.stims = true → s.started = true →
    (decodeTableWord 8 w = some i → step (s.withFetchWord 8 w) = exec i s) ∧
    (decodeTableWord 32 w = some i → step (s.withFetchWord 32 w) = exec i { s with ops := [] }))

/-- With no word to perform the clock runs on (R268): one period, with `rst` and `rc_in` at whatever level the world outside
drives (R43). That the two levels are free values is the model's choice (log 6). -/
def Obligations.ClockRunsOnWithoutStimulus : Prop :=
  ∀ s : State, s.cfg.wf = true → s.started = true → s.ops = [] → s.stims = [] →
    ∃ rst rc : Bool,
      step s = exec (if rst then .reset else .cycle) { s with rcIn := rc, free := s.free + 1 }

/-- R12: a configuration that breaks a line of R12 is refused, and no other; its first line makes both drive bands hold a
width and both denominators of R156 and R157 positive. -/
def Obligations.ExactlyIllFormedConfigurationsAreRefused : Prop :=
  ∀ s : State,
    ((0 < s.cfg.pwMin ∧ (s.cfg.pwMin : Int) < (s.cfg.pwMid : Int) - s.cfg.pwDz ∧
        s.cfg.pwMid + s.cfg.pwDz < s.cfg.pwMax ∧ 0 ≤ s.cfg.pwDz ∧ s.cfg.pwMax < 2 ^ s.cfg.timeW) ∧
      (1 ≤ s.cfg.dead ∧ s.cfg.dead < 2 ^ s.cfg.seqW ∧ 1 ≤ s.cfg.settle ∧ s.cfg.settle < 2 ^ s.cfg.seqW) ∧
      (1 ≤ s.cfg.wdMax ∧ s.cfg.wdMax < 2 ^ s.cfg.wdW) ∧
      (1 ≤ s.cfg.tickShift ∧ s.cfg.tickShift < s.cfg.timeW) ∧
      (s.cfg.powerMax = 255 ∧ s.cfg.dutyMax = 255 ∧ 2 ≤ s.cfg.pwmPeriod ∧ s.cfg.pwmPeriod ≤ 256) →
        step s ≠ .refused .illFormedConfig ∧
        (∃ e, s.cfg.pwMid + s.cfg.pwDz < e ∧ e ≤ s.cfg.pwMax) ∧
        (∃ e, s.cfg.pwMin ≤ e ∧ (e : Int) < (s.cfg.pwMid : Int) - s.cfg.pwDz) ∧
        0 < s.cfg.pwMax - s.cfg.pwMid ∧ 0 < s.cfg.pwMid - s.cfg.pwMin) ∧
    (¬ ((0 < s.cfg.pwMin ∧ (s.cfg.pwMin : Int) < (s.cfg.pwMid : Int) - s.cfg.pwDz ∧
        s.cfg.pwMid + s.cfg.pwDz < s.cfg.pwMax ∧ 0 ≤ s.cfg.pwDz ∧ s.cfg.pwMax < 2 ^ s.cfg.timeW) ∧
      (1 ≤ s.cfg.dead ∧ s.cfg.dead < 2 ^ s.cfg.seqW ∧ 1 ≤ s.cfg.settle ∧ s.cfg.settle < 2 ^ s.cfg.seqW) ∧
      (1 ≤ s.cfg.wdMax ∧ s.cfg.wdMax < 2 ^ s.cfg.wdW) ∧
      (1 ≤ s.cfg.tickShift ∧ s.cfg.tickShift < s.cfg.timeW) ∧
      (s.cfg.powerMax = 255 ∧ s.cfg.dutyMax = 255 ∧ 2 ≤ s.cfg.pwmPeriod ∧ s.cfg.pwmPeriod ≤ 256)) →
        step s = .refused .illFormedConfig)

/-- R46: before the first RESET every instruction but RESET is refused; RESET runs and starts the run. The flag that tells
whether a RESET was performed is the model's (log 15). -/
def Obligations.OnlyResetRunsBeforeTheFirstReset : Prop :=
  ∀ (s s' : State) (i : Instr),
    s.cfg.wf = true → stimsOk s.stims = true → s.started = false → fetch s = .instr i s' →
    (i ≠ .reset → i ≠ .stimReset → step s = .refused .notFromReset) ∧
    (i = .reset ∨ i = .stimReset → ∃ t, step s = .next t ∧ t.started = true)

/-! ### Switches -/

/-- R140: SW_ON sets the named switch's level and nothing else but its record, which is emitted on every call. -/
def Obligations.SwitchOnSetsOnlyItsSwitch : Prop :=
  ∀ s : State,
    exec .swOnFh s = .next { s with sw := { s.sw with fh := true }, trace := ⟨s.time, 0x20, none⟩ :: s.trace } ∧
    exec .swOnFl s = .next { s with sw := { s.sw with fl := true }, trace := ⟨s.time, 0x21, none⟩ :: s.trace } ∧
    exec .swOnBh s = .next { s with sw := { s.sw with bh := true }, trace := ⟨s.time, 0x22, none⟩ :: s.trace } ∧
    exec .swOnBl s = .next { s with sw := { s.sw with bl := true }, trace := ⟨s.time, 0x23, none⟩ :: s.trace }

/-- R141: SW_OFF clears the named switch's level and nothing else but its record, which is emitted on every call. -/
def Obligations.SwitchOffClearsOnlyItsSwitch : Prop :=
  ∀ s : State,
    exec .swOffFh s = .next { s with sw := { s.sw with fh := false }, trace := ⟨s.time, 0x10, none⟩ :: s.trace } ∧
    exec .swOffFl s = .next { s with sw := { s.sw with fl := false }, trace := ⟨s.time, 0x11, none⟩ :: s.trace } ∧
    exec .swOffBh s = .next { s with sw := { s.sw with bh := false }, trace := ⟨s.time, 0x12, none⟩ :: s.trace } ∧
    exec .swOffBl s = .next { s with sw := { s.sw with bl := false }, trace := ⟨s.time, 0x13, none⟩ :: s.trace }

/-- R143, R291: during a cycle, and during a RESET, the pins show SW as it stood at the end of the last period, and they keep
it until the next period whatever operation words are performed. The field `pins` is the model's (log 12). -/
def Obligations.PinsShowTheLastPeriodsBank : Prop :=
  (∀ s t : State, exec .cycle s = .next t → t.pins = s.sw) ∧
  (∀ s t : State, exec .reset s = .next t → t.pins = s.sw) ∧
  (∀ (i : Instr) (s t : State), exec i s = .next t →
    i ≠ .cycle → i ≠ .reset → i ≠ .stimReset → (∀ l c, i ≠ .stimRun l c) → t.pins = s.pins)

/-! ### The RC pulse decoder -/

/-- EDGE_RISE writes TIME to PULSE_START and P_WD_MAX to WD_CNT and nothing else but its record (R151). That PEND.EDGE
stays as it is when the word is performed on its own is the model's reading (log 8). -/
def Obligations.EdgeRiseRecordsTheStartAndReloadsTheWatchdog : Prop :=
  ∀ s : State,
    exec .edgeRise s =
      .next { s with pulseStart := s.time, wdCnt := s.cfg.wdMax, trace := ⟨s.time, 0x30, none⟩ :: s.trace }

/-- EDGE_FALL by the width `e` of R153 (R155 to R158): outside the band nothing but two records; beyond the deadzone
Forward or Backward with the floor of the scale, which the clamps never bind; else Braking with power 0. The frame's
PEND.EDGE is the model's reading (log 8). -/
def Obligations.EdgeFallDecodesTheWidth : Prop :=
  ∀ (s : State) (e : Nat), s.cfg.wf = true →
    (e : Int) = ((s.time : Int) - s.pulseStart) % (2 ^ s.cfg.timeW : Nat) →
    (e < s.cfg.pwMin ∨ s.cfg.pwMax < e →
      exec .edgeFall s =
        .next { s with trace := ⟨s.time, 0xC1, some e⟩ :: ⟨s.time, 0x31, some e⟩ :: s.trace }) ∧
    (s.cfg.pwMid + s.cfg.pwDz < e ∧ e ≤ s.cfg.pwMax →
      exec .edgeFall s =
        .next { s with
          targetState := .fwd
          targetPower := ((e - s.cfg.pwMid) * 255) / (s.cfg.pwMax - s.cfg.pwMid)
          trace := ⟨s.time, 0x31, some e⟩ :: s.trace } ∧
      ((e - s.cfg.pwMid) * 255) / (s.cfg.pwMax - s.cfg.pwMid) ≤ 255 ∧
      (e = s.cfg.pwMax → ((e - s.cfg.pwMid) * 255) / (s.cfg.pwMax - s.cfg.pwMid) = 255)) ∧
    (s.cfg.pwMin ≤ e ∧ e + s.cfg.pwDz < s.cfg.pwMid →
      exec .edgeFall s =
        .next { s with
          targetState := .bwd
          targetPower := ((s.cfg.pwMid - e) * 255) / (s.cfg.pwMid - s.cfg.pwMin)
          trace := ⟨s.time, 0x31, some e⟩ :: s.trace } ∧
      ((s.cfg.pwMid - e) * 255) / (s.cfg.pwMid - s.cfg.pwMin) ≤ 255) ∧
    (s.cfg.pwMid ≤ e + s.cfg.pwDz ∧ e ≤ s.cfg.pwMid + s.cfg.pwDz →
      exec .edgeFall s =
        .next { s with targetState := .brake, targetPower := 0, trace := ⟨s.time, 0x31, some e⟩ :: s.trace })

/-- R158 with the default constants: the 21 widths 365 to 385 decode to Braking with power 0, and no other valid width
does. -/
def Obligations.DefaultDeadzoneIsTwentyOneWidths : Prop :=
  ∀ (s t : State), s.cfg = {} → exec .edgeFall s = .next t → 275 ≤ elapsed s → elapsed s ≤ 475 →
    ((365 ≤ elapsed s ∧ elapsed s ≤ 385) ↔ (t.targetState = .brake ∧ t.targetPower = 0))

/-- R153: `n` cycles after the recorded pulse start the elapsed width is `n` modulo 2^P_TIME_W, so widths alias once every
2^P_TIME_W cycles. -/
def Obligations.ElapsedWidthIsModular : Prop :=
  ∀ (s : State) (n : Nat), s.time = (s.pulseStart + n) % 2 ^ s.cfg.timeW → elapsed s = n % 2 ^ s.cfg.timeW

/-- R159: after a valid Forward decode the power does not fall as the width grows and is P_POWER_MAX at P_PW_MAX; after a
valid Backward decode it does not rise and is P_POWER_MAX at P_PW_MIN; the smallest offsets give 28 with the defaults. -/
def Obligations.DecodedPowerIsMonotonic : Prop :=
  (∀ s s' t t' : State, s.cfg.wf = true → s'.cfg = s.cfg →
    exec .edgeFall s = .next t → exec .edgeFall s' = .next t' →
    (s.cfg.pwMid + s.cfg.pwDz < elapsed s → elapsed s ≤ elapsed s' → elapsed s' ≤ s.cfg.pwMax →
      t.targetState = .fwd ∧ t'.targetState = .fwd ∧ t.targetPower ≤ t'.targetPower ∧
      (elapsed s' = s.cfg.pwMax → t'.targetPower = s.cfg.powerMax)) ∧
    (s.cfg.pwMin ≤ elapsed s → elapsed s ≤ elapsed s' → elapsed s' + s.cfg.pwDz < s.cfg.pwMid →
      t.targetState = .bwd ∧ t'.targetState = .bwd ∧ t'.targetPower ≤ t.targetPower ∧
      (elapsed s = s.cfg.pwMin → t.targetPower = s.cfg.powerMax))) ∧
  (∀ s t : State, s.cfg = {} → exec .edgeFall s = .next t →
    (elapsed s = 386 → t.targetPower = 28) ∧ (elapsed s = 364 → t.targetPower = 28))

/-- R150: the edge service clears PEND.EDGE and then performs EDGE_RISE if the level RC_PREV is 1 at service time, else
EDGE_FALL; the time recorded is TIME at service time, and a falling edge leaves the start and the watchdog. -/
def Obligations.EdgeServiceReadsLevelAndTimeAtService : Prop :=
  ∀ s : State,
    .next (edgeService s) =
      exec (if s.rcPrev then .edgeRise else .edgeFall) { s with pend := { s.pend with edge := false } } ∧
    (edgeService s).pend = { s.pend with edge := false } ∧
    (s.rcPrev = true → (edgeService s).pulseStart = s.time ∧ (edgeService s).wdCnt = s.cfg.wdMax ∧
      (edgeService s).targetState = s.targetState ∧ (edgeService s).targetPower = s.targetPower) ∧
    (s.rcPrev = false → (edgeService s).pulseStart = s.pulseStart ∧ (edgeService s).wdCnt = s.wdCnt)

/-! ### The watchdog -/

/-- R180: TICK clears its flag; at 0 and not Braking it forces the target and nothing else; above 0 it counts down; at 0 and
Braking it changes nothing. -/
def Obligations.TickCountsDownOrForcesBraking : Prop :=
  ∀ s : State,
    (s.wdCnt = 0 → s.motorState ≠ .brake →
      exec .tick s = .next { s with
        pend := { s.pend with tick := false }, targetState := .brake
        trace := ⟨s.time, 0xC2, none⟩ :: ⟨s.time, 0x40, none⟩ :: s.trace }) ∧
    (0 < s.wdCnt →
      exec .tick s = .next { s with
        pend := { s.pend with tick := false }, wdCnt := s.wdCnt - 1, trace := ⟨s.time, 0x40, none⟩ :: s.trace }) ∧
    (s.wdCnt = 0 → s.motorState = .brake →
      exec .tick s = .next { s with
        pend := { s.pend with tick := false }, trace := ⟨s.time, 0x40, none⟩ :: s.trace })

/-- R180 and R183 (conflict C7): from WD_CNT = n and not Braking, n ticks bring it to 0 and leave the target, and the tick
after that forces Braking and leaves the power. -/
def Obligations.WatchdogForcesOnTheTickAfterZero : Prop :=
  ∀ s : State, s.motorState ≠ .brake →
    ∃ t u, repeatInstr s.wdCnt .tick s = .next t ∧ exec .tick t = .next u ∧
      t.wdCnt = 0 ∧ t.targetState = s.targetState ∧
      u.wdCnt = 0 ∧ u.targetState = .brake ∧ u.targetPower = s.targetPower ∧ u.motorState = s.motorState

/-- R181: in an idle cycle with a tick, WD_CNT at 0, no rising edge and a motor that is not Braking, the force and the
braking transition it causes happen in that one cycle, and both high sides are off at its end. -/
def Obligations.WatchdogBrakesInTheCycleOfItsTick : Prop :=
  ∀ s : State, s.boundary = true → s.phase = .idle → s.motorState ≠ .brake → s.wdCnt = 0 →
    ¬ (s.rcIn = true ∧ s.rcPrev = false) → (s.time + 1) % 2 ^ s.cfg.timeW % 2 ^ s.cfg.tickShift = 0 →
    ∃ t, exec .cycle s = .next t ∧ t.targetState = .brake ∧ t.wdCnt = 0 ∧ t.phase = .dead1 ∧ t.tgt = .brake ∧
      t.seqCnt = s.cfg.dead ∧ t.sw.fh = false ∧ t.sw.bh = false

/-! ### The PWM modulator -/

/-- R220: PWM_START clears its flag, and with DUTY_SH above 0 turns on FH in Forward and BH in Backward; else it does
nothing. -/
def Obligations.PwmStartTurnsOnTheDrivenHighSide : Prop :=
  ∀ s : State,
    (0 < s.dutySh → s.motorState = .fwd →
      exec .pwmStart s = .next { s with
        pend := { s.pend with start := false }, sw := { s.sw with fh := true }
        trace := ⟨s.time, 0x20, none⟩ :: ⟨s.time, 0x50, none⟩ :: s.trace }) ∧
    (0 < s.dutySh → s.motorState = .bwd →
      exec .pwmStart s = .next { s with
        pend := { s.pend with start := false }, sw := { s.sw with bh := true }
        trace := ⟨s.time, 0x22, none⟩ :: ⟨s.time, 0x50, none⟩ :: s.trace }) ∧
    (s.dutySh = 0 ∨ s.motorState = .brake ∨ s.motorState = .uninit →
      exec .pwmStart s = .next { s with
        pend := { s.pend with start := false }, trace := ⟨s.time, 0x50, none⟩ :: s.trace })

/-- R222: PWM_MATCH clears its flag, and with DUTY_SH below P_DUTY_MAX and a motor that is not Braking turns both high sides
off; else it does nothing. -/
def Obligations.PwmMatchTurnsBothHighSidesOff : Prop :=
  ∀ s : State,
    (s.dutySh < s.cfg.dutyMax → s.motorState ≠ .brake →
      exec .pwmMatch s = .next { s with
        pend := { s.pend with pwmMatch := false }, sw := { s.sw with fh := false, bh := false }
        trace := ⟨s.time, 0x12, none⟩ :: ⟨s.time, 0x10, none⟩ :: ⟨s.time, 0x51, none⟩ :: s.trace }) ∧
    (s.cfg.dutyMax ≤ s.dutySh ∨ s.motorState = .brake →
      exec .pwmMatch s = .next { s with
        pend := { s.pend with pwmMatch := false }, trace := ⟨s.time, 0x51, none⟩ :: s.trace })

/-- R125: at the end of the period PWM_ADV wraps the counter, copies DUTY and gives a cycle start; else it counts up; the
compare match is taken against the new DUTY_SH. The event bits are held in `ev` (log 7). A count that has no successor in
the register's 8 bits is CountersPastTheirRangeTakeAFreeValue. -/
def Obligations.PwmAdvCountsAndCompares : Prop :=
  ∀ s : State, s.cfg.wf = true →
    (s.pwmCnt = s.cfg.pwmPeriod - 1 →
      exec .pwmAdv s = .next { s with
        pwmCnt := 0, dutySh := s.duty
        ev := { s.ev with start := true, pwmMatch := (0 == s.duty) }
        trace := ⟨s.time, 0x82, none⟩ :: s.trace }) ∧
    (s.pwmCnt ≠ s.cfg.pwmPeriod - 1 → s.pwmCnt < 255 →
      exec .pwmAdv s = .next { s with
        pwmCnt := s.pwmCnt + 1
        ev := { s.ev with start := false, pwmMatch := (s.pwmCnt + 1 == s.dutySh) }
        trace := ⟨s.time, 0x82, none⟩ :: s.trace })

/-- R125, R227: over one period that begins with a wrap, the cycle start falls in its first cycle only and the compare match
in the cycle whose count is the duty loaded at that wrap and in no other. -/
def Obligations.OneStartAndOneMatchPerPeriod : Prop :=
  ∀ (s : State) (n : Nat), s.cfg.wf = true → s.pwmCnt = s.cfg.pwmPeriod - 1 → n < s.cfg.pwmPeriod →
    ∃ t, repeatInstr (n + 1) .pwmAdv s = .next t ∧ t.pwmCnt = n ∧ t.dutySh = s.duty ∧
      t.ev.start = (n == 0) ∧ t.ev.pwmMatch = (n == s.duty)

/-- R224 to R226: while driving, idle, with the target reached and no edge, in the period that begins with `duty` on DUTY,
the driven direction's high side is on at the end of the n-th cycle exactly if n is at most `duty`, or `duty` is 255 and
there is no match that turns it off; the three other switches keep their levels. It holds in Forward and Backward, for
every configuration, and whatever the arbiter writes to DUTY within the period. The bound on `wdCnt` is the number of ticks
that n cycles can hold: no watchdog force falls into them. -/
def Obligations.OnTimeOfAPeriodIsItsDuty : Prop :=
  ∀ (s : State) (n : Nat), s.boundary = true → s.phase = .idle → s.motorState = .fwd ∨ s.motorState = .bwd →
    s.targetState = s.motorState → s.pwmCnt = s.cfg.pwmPeriod - 1 → 1 ≤ n → n ≤ s.cfg.pwmPeriod →
    (n - 1) / 2 ^ s.cfg.tickShift + 1 ≤ s.wdCnt →
    ∃ t, runLevels (List.replicate n s.rcPrev) s = .next t ∧ t.phase = .idle ∧ t.motorState = s.motorState ∧
      (s.motorState = .fwd →
        t.sw = { fh := decide (n ≤ s.duty ∨ s.duty = 255), fl := true, bh := false, bl := false }) ∧
      (s.motorState = .bwd →
        t.sw = { fh := false, fl := false, bh := decide (n ≤ s.duty ∨ s.duty = 255), bl := true })

/-! ### The sequencer -/

/-- R192: GO_FWD faults while busy, is a no-op in Forward, and else turns BH and BL off and starts the first dead time. -/
def Obligations.GoFwdStartsAForwardTransition : Prop :=
  ∀ s : State,
    (s.phase ≠ .idle → exec .goFwd s = .fault (.goBusy { s with trace := ⟨s.time, 0xCF, some 4⟩ :: s.trace })) ∧
    (s.phase = .idle → s.motorState = .fwd → exec .goFwd s = .next s) ∧
    (s.phase = .idle → s.motorState ≠ .fwd →
      exec .goFwd s = .next { s with
        sw := { s.sw with bh := false, bl := false }, tgt := .fwd, phase := .dead1, seqCnt := s.cfg.dead
        trace := ⟨s.time, 0x13, none⟩ :: ⟨s.time, 0x12, none⟩ :: ⟨s.time, 0x71, none⟩ :: s.trace })

/-- R193: GO_BWD faults while busy, is a no-op in Backward, and else turns FH and FL off and starts the first dead time. -/
def Obligations.GoBwdStartsABackwardTransition : Prop :=
  ∀ s : State,
    (s.phase ≠ .idle → exec .goBwd s = .fault (.goBusy { s with trace := ⟨s.time, 0xCF, some 4⟩ :: s.trace })) ∧
    (s.phase = .idle → s.motorState = .bwd → exec .goBwd s = .next s) ∧
    (s.phase = .idle → s.motorState ≠ .bwd →
      exec .goBwd s = .next { s with
        sw := { s.sw with fh := false, fl := false }, tgt := .bwd, phase := .dead1, seqCnt := s.cfg.dead
        trace := ⟨s.time, 0x11, none⟩ :: ⟨s.time, 0x10, none⟩ :: ⟨s.time, 0x72, none⟩ :: s.trace })

/-- R194: GO_BRK faults while busy, is a no-op in Braking, and else turns both high sides off and starts the dead time. -/
def Obligations.GoBrkStartsABrakingTransition : Prop :=
  ∀ s : State,
    (s.phase ≠ .idle → exec .goBrk s = .fault (.goBusy { s with trace := ⟨s.time, 0xCF, some 4⟩ :: s.trace })) ∧
    (s.phase = .idle → s.motorState = .brake → exec .goBrk s = .next s) ∧
    (s.phase = .idle → s.motorState ≠ .brake →
      exec .goBrk s = .next { s with
        sw := { s.sw with fh := false, bh := false }, tgt := .brake, phase := .dead1, seqCnt := s.cfg.dead
        trace := ⟨s.time, 0x12, none⟩ :: ⟨s.time, 0x10, none⟩ :: ⟨s.time, 0x73, none⟩ :: s.trace })

/-- R196: with two or more cycles left, SEQ_STEP only counts down. -/
def Obligations.SeqStepCountsDown : Prop :=
  ∀ s : State, 2 ≤ s.seqCnt →
    exec .seqStep s = .next { s with seqCnt := s.seqCnt - 1, trace := ⟨s.time, 0x84, none⟩ :: s.trace }

/-- R197 to R200: what SEQ_STEP does when the count ends: the low side and the second dead time; the high side and the
commit of a drive; both low sides, the commit of Braking and the settle delay; the release. -/
def Obligations.SeqStepActsAtTheEndOfADelay : Prop :=
  ∀ s : State, s.seqCnt = 1 →
    (s.phase = .dead1 → s.tgt = .fwd →
      exec .seqStep s = .next { s with
        sw := { s.sw with fl := true }, phase := .dead2, seqCnt := s.cfg.dead
        trace := ⟨s.time, 0x21, none⟩ :: ⟨s.time, 0x84, none⟩ :: s.trace }) ∧
    (s.phase = .dead1 → s.tgt = .bwd →
      exec .seqStep s = .next { s with
        sw := { s.sw with bl := true }, phase := .dead2, seqCnt := s.cfg.dead
        trace := ⟨s.time, 0x23, none⟩ :: ⟨s.time, 0x84, none⟩ :: s.trace }) ∧
    (s.phase = .dead2 → s.tgt = .fwd →
      exec .seqStep s = .next { s with
        sw := { s.sw with fh := true }, motorState := .fwd, phase := .idle, seqCnt := 0
        trace := ⟨s.time, 0x20, none⟩ :: ⟨s.time, 0x84, none⟩ :: s.trace }) ∧
    (s.phase = .dead2 → s.tgt = .bwd →
      exec .seqStep s = .next { s with
        sw := { s.sw with bh := true }, motorState := .bwd, phase := .idle, seqCnt := 0
        trace := ⟨s.time, 0x22, none⟩ :: ⟨s.time, 0x84, none⟩ :: s.trace }) ∧
    (s.phase = .dead1 → s.tgt = .brake →
      exec .seqStep s = .next { s with
        sw := { s.sw with fl := true, bl := true }, motorState := .brake, phase := .settle, seqCnt := s.cfg.settle
        trace := ⟨s.time, 0x23, none⟩ :: ⟨s.time, 0x21, none⟩ :: ⟨s.time, 0x84, none⟩ :: s.trace }) ∧
    (s.phase = .settle → s.tgt = .brake →
      exec .seqStep s = .next { s with
        phase := .idle, seqCnt := 0, trace := ⟨s.time, 0x84, none⟩ :: s.trace })

/-- R201, R258: a count that ends in a (PHASE, TGT) that is no legal busy combination raises Fault(SEQ_ILLEGAL), with the
registers as they stood. -/
def Obligations.IllegalSequencerStateFaults : Prop :=
  ∀ s : State, s.seqCnt = 1 → seqBusyOk s.phase s.tgt = false →
    exec .seqStep s = .fault (.seqIllegal { s with
      seqCnt := 0, trace := ⟨s.time, 0xCF, some 2⟩ :: ⟨s.time, 0x84, none⟩ :: s.trace })

/-- Past the range of a counter the spec states no value, and the operation goes on with one that nothing constrains but the
register's width: SEQ_STEP from SEQ_CNT = 0 (log 9) and PWM_ADV from an illegal PWM_CNT of 255 or more (log 10). -/
def Obligations.CountersPastTheirRangeTakeAFreeValue : Prop :=
  (∀ s : State, s.seqCnt = 0 → ∃ v, v < 2 ^ s.cfg.seqW ∧
    (v ≠ 0 → exec .seqStep s = .next { s with
      seqCnt := v, free := s.free + 1, trace := ⟨s.time, 0x84, none⟩ :: s.trace }) ∧
    (v = 0 → exec .seqStep s = seqAct { s with
      seqCnt := 0, free := s.free + 1, trace := ⟨s.time, 0x84, none⟩ :: s.trace })) ∧
  (∀ s : State, 255 ≤ s.pwmCnt → s.pwmCnt ≠ s.cfg.pwmPeriod - 1 → ∃ v < 256,
    exec .pwmAdv s = .next { s with
      pwmCnt := v, free := s.free + 1, ev := { s.ev with start := false, pwmMatch := (v == s.dutySh) }
      trace := ⟨s.time, 0x82, none⟩ :: s.trace })

/-- R196, R253, R286: with n + 1 cycles left of a delay, n cycles at any input levels leave one: no switch, no motor state,
no target and no watchdog count changes, and the block stays in its phase. -/
def Obligations.DelayHoldsUnderAnyInput : Prop :=
  ∀ (s : State) (ls : List Bool), s.boundary = true → s.phase ≠ .idle → s.seqCnt = ls.length + 1 →
    ∃ t, runLevels ls s = .next t ∧ t.seqCnt = 1 ∧ t.phase = s.phase ∧ t.tgt = s.tgt ∧ t.sw = s.sw ∧
      t.motorState = s.motorState ∧ t.targetState = s.targetState ∧ t.targetPower = s.targetPower ∧
      t.wdCnt = s.wdCnt ∧ t.duty = s.duty ∧ t.boundary = true

/-- R202, a drive transition just started by GO: before P_DEAD cycles no switch changes; from P_DEAD cycles on the low side
is on; in the 2 · P_DEAD-th, and not before, SEQ_STEP turns the high side on (its record follows SEQ_STEP's, with the stamp
of that cycle), the motor state becomes the target and every held event is serviced; at any input levels. The services and
the arbiter of that cycle may turn the high side off again (R228), so the bank at its end is left open. -/
def Obligations.DriveTransitionTakesTwoDeadTimes : Prop :=
  ∀ (s : State) (ls : List Bool), s.boundary = true → s.phase = .dead1 → s.tgt ≠ .brake → s.seqCnt = s.cfg.dead →
    ls.length ≤ 2 * s.cfg.dead →
    ∃ t, runLevels ls s = .next t ∧ t.boundary = true ∧
      (ls.length < 2 * s.cfg.dead → t.phase ≠ .idle ∧ t.tgt = s.tgt ∧ t.motorState = s.motorState) ∧
      (ls.length < s.cfg.dead → t.sw = s.sw) ∧
      (s.cfg.dead ≤ ls.length → ls.length < 2 * s.cfg.dead →
        (s.tgt = .fwd → t.sw = { s.sw with fl := true }) ∧ (s.tgt = .bwd → t.sw = { s.sw with bl := true })) ∧
      (ls.length = 2 * s.cfg.dead → t.motorState = s.tgt ∧ t.pend = Events.none ∧
        ∃ later earlier, t.trace =
          later ++ ⟨t.time, if s.tgt = .fwd then 0x20 else 0x22, none⟩ :: ⟨t.time, 0x84, none⟩ :: (earlier ++ s.trace))

/-- R202, a braking transition just started by GO: before P_DEAD cycles no switch changes; from P_DEAD cycles on both low
sides are on, both high sides off and the motor state is Braking; the block is busy for P_DEAD + P_SETTLE cycles, and in
the last of them every held event is serviced; at any input levels. -/
def Obligations.BrakingTransitionTakesDeadTimeAndSettle : Prop :=
  ∀ (s : State) (ls : List Bool), s.boundary = true → s.phase = .dead1 → s.tgt = .brake → s.seqCnt = s.cfg.dead →
    ls.length ≤ s.cfg.dead + s.cfg.settle →
    ∃ t, runLevels ls s = .next t ∧ t.boundary = true ∧
      (ls.length < s.cfg.dead + s.cfg.settle → t.phase ≠ .idle) ∧
      (ls.length < s.cfg.dead → t.sw = s.sw ∧ t.motorState = s.motorState) ∧
      (s.cfg.dead ≤ ls.length → t.motorState = .brake) ∧
      (s.cfg.dead ≤ ls.length → ls.length < s.cfg.dead + s.cfg.settle → t.sw = Switches.braking) ∧
      (ls.length = s.cfg.dead + s.cfg.settle → t.pend = Events.none)

/-! ### The arbiter -/

/-- R240: ARB faults on an Uninitialized target; with the target reached DUTY takes TARGET_POWER; from Braking a drive target
resets DUTY and starts its GO; any other mismatch starts GO_BRK with DUTY as it was. -/
def Obligations.ArbComparesTargetAndMotorState : Prop :=
  ∀ s : State,
    (s.targetState = .uninit →
      exec .arb s = .fault (.targetUninit { s with
        trace := ⟨s.time, 0xCF, some 3⟩ :: ⟨s.time, 0x60, none⟩ :: s.trace })) ∧
    (s.targetState ≠ .uninit → s.targetState = s.motorState →
      exec .arb s = .next { s with duty := s.targetPower, trace := ⟨s.time, 0x60, none⟩ :: s.trace }) ∧
    (s.targetState = .fwd → s.motorState = .brake →
      exec .arb s = exec .goFwd { s with duty := 0, trace := ⟨s.time, 0x60, none⟩ :: s.trace }) ∧
    (s.targetState = .bwd → s.motorState = .brake →
      exec .arb s = exec .goBwd { s with duty := 0, trace := ⟨s.time, 0x60, none⟩ :: s.trace }) ∧
    (s.targetState ≠ .uninit → s.targetState ≠ s.motorState →
      ¬ (s.targetState = .fwd ∧ s.motorState = .brake) → ¬ (s.targetState = .bwd ∧ s.motorState = .brake) →
      exec .arb s = exec .goBrk { s with trace := ⟨s.time, 0x60, none⟩ :: s.trace })

/-- R240, R241, R242: idle and with a target, ARB completes; a drive is started from Braking only, so a reversal passes
through Braking; and it never asks for the state the motor is in. -/
def Obligations.ReversalsPassThroughBraking : Prop :=
  ∀ s : State, s.phase = .idle → s.targetState ≠ .uninit →
    ∃ t, exec .arb s = .next t ∧ t.motorState = s.motorState ∧
      (s.targetState = s.motorState ↔ t.phase = .idle) ∧
      (t.phase ≠ .idle → t.phase = .dead1 ∧ t.tgt ≠ s.motorState ∧ t.seqCnt = s.cfg.dead) ∧
      (s.motorState = .fwd → s.targetState = .bwd → t.tgt = .brake ∧ t.sw = { s.sw with fh := false, bh := false }) ∧
      (s.motorState = .bwd → s.targetState = .fwd → t.tgt = .brake ∧ t.sw = { s.sw with fh := false, bh := false }) ∧
      (t.phase ≠ .idle → t.tgt = .fwd ∨ t.tgt = .bwd → s.motorState = .brake ∧ t.duty = 0)

/-- R207, R242: from a boundary state one cycle moves the motor state to Braking, or from Braking, or not at all. -/
def Obligations.MotorStateChangesOnlyToOrFromBraking : Prop :=
  ∀ s t : State, s.boundary = true → exec .cycle s = .next t →
    t.motorState = s.motorState ∨ t.motorState = .brake ∨ (s.motorState = .brake ∧ t.motorState = s.tgt)

/-! ### The cycle -/

/-- R122: SAMPLE takes the level of `rc_in` into RC_PREV, and its event is a change of level. The event bit is held in the
model's own field `ev` (log 7), and the stamp of a SAMPLE performed on its own, TIME as it is, is the model's reading
(log 4). -/
def Obligations.SampleDetectsAChangeOfLevel : Prop :=
  ∀ s : State,
    exec .sample s = .next { s with
      rcPrev := s.rcIn, ev := { s.ev with edge := (s.rcIn != s.rcPrev) }, trace := ⟨s.time, 0x80, none⟩ :: s.trace }

/-- R123, R124: TB_ADV adds 1 to TIME modulo 2^P_TIME_W, and its event is a tick, where the low P_TICK_SHIFT bits are 0. The
event bit is held in `ev` (log 7); its record is stamped with the TIME it leaves (log 4). -/
def Obligations.TimeBaseAdvancesAndTicks : Prop :=
  ∀ s : State,
    exec .tbAdv s = .next { s with
      time := (s.time + 1) % 2 ^ s.cfg.timeW
      ev := { s.ev with tick := ((s.time + 1) % 2 ^ s.cfg.timeW % 2 ^ s.cfg.tickShift == 0) }
      trace := ⟨(s.time + 1) % 2 ^ s.cfg.timeW, 0x81, none⟩ :: s.trace }

/-- R126, R252: LATCH sets the flag of every event of the cycle, keeps the flags already set, and records each occurrence
that finds its flag set as lost, in the order EDGE, TICK, START, MATCH (the trace is newest first, log 3). -/
def Obligations.LatchSetsFlagsAndRecordsLostEvents : Prop :=
  ∀ s : State,
    exec .latch s = .next { s with
      pend := { edge := s.pend.edge || s.ev.edge, tick := s.pend.tick || s.ev.tick
                start := s.pend.start || s.ev.start, pwmMatch := s.pend.pwmMatch || s.ev.pwmMatch }
      trace :=
        (if s.ev.pwmMatch && s.pend.pwmMatch then [⟨s.time, 0xC7, none⟩] else []) ++
        (if s.ev.start && s.pend.start then [⟨s.time, 0xC6, none⟩] else []) ++
        (if s.ev.tick && s.pend.tick then [⟨s.time, 0xC5, none⟩] else []) ++
        (if s.ev.edge && s.pend.edge then [⟨s.time, 0xC4, none⟩] else []) ++
        ⟨s.time, 0x83, none⟩ :: s.trace }

/-- R120, the example: the first CYCLE after RESET with `rc = 0`, the level that State.reset holds (log 21). -/
def Obligations.FirstCycleAfterResetStartsBraking : Prop :=
  ∃ t, exec .cycle State.reset = .next t ∧ t.time = 1 ∧ t.pwmCnt = 1 ∧ t.phase = .dead1 ∧ t.tgt = .brake ∧
    t.seqCnt = 50 ∧ t.sw = Switches.off ∧ t.motorState = .uninit

/-- R120, R121, R150, R255: but for the records, a cycle is its operation words performed in the fixed order, each reading
what the earlier ones wrote, up to and with the first fault. -/
def Obligations.CycleIsItsMicroOperationsInOrder : Prop :=
  ∀ s : State, forgetTrace (exec .cycle s) = forgetTrace (cycleByWords s)

/-- R253: in a cycle that stays busy up to the point of the services, no event is serviced and the arbiter does not run:
events are latched, the time base and the PWM counter advance, and the decoder, the watchdog and the duty are untouched. -/
def Obligations.BusyCycleHoldsEventsAndArbiter : Prop :=
  ∀ s : State, s.boundary = true → s.phase ≠ .idle → (2 ≤ s.seqCnt ∨ s.phase = .dead1) →
    ∃ t, exec .cycle s = .next t ∧ t.phase ≠ .idle ∧
      t.pulseStart = s.pulseStart ∧ t.wdCnt = s.wdCnt ∧ t.targetState = s.targetState ∧
      t.targetPower = s.targetPower ∧ t.duty = s.duty ∧
      t.time = (s.time + 1) % 2 ^ s.cfg.timeW ∧ t.rcPrev = s.rcIn ∧
      (s.pwmCnt = s.cfg.pwmPeriod - 1 → t.pwmCnt = 0 ∧ t.dutySh = s.duty) ∧
      (s.pwmCnt ≠ s.cfg.pwmPeriod - 1 → t.pwmCnt = s.pwmCnt + 1 ∧ t.dutySh = s.dutySh) ∧
      t.pend.edge = (s.pend.edge || (s.rcIn != s.rcPrev)) ∧
      t.pend.tick = (s.pend.tick || (t.time % 2 ^ s.cfg.tickShift == 0)) ∧
      t.pend.start = (s.pend.start || (s.pwmCnt == s.cfg.pwmPeriod - 1)) ∧
      t.pend.pwmMatch = (s.pend.pwmMatch || (t.pwmCnt == t.dutySh))

/-- R255: after SERVICE all four flags are 0, whatever was pending; so a cycle that begins idle, or in which a transition
ends, leaves no flag set. -/
def Obligations.ServiceLeavesNoFlagPending : Prop :=
  (∀ s : State, (serviceEvents s).pend = Events.none) ∧
  (∀ s t : State, s.phase = .idle → exec .cycle s = .next t → t.pend = Events.none) ∧
  (∀ s t : State, s.boundary = true → s.seqCnt = 1 → s.phase = .dead2 ∨ s.phase = .settle →
    exec .cycle s = .next t → t.pend = Events.none)

/-- R294: a valid falling edge serviced in an idle cycle without a tick is acted on in that cycle: DUTY takes the power of a
target that is already reached, else a transition starts. -/
def Obligations.FallingEdgeIsActedOnInItsCycle : Prop :=
  ∀ s : State, s.boundary = true → s.phase = .idle → s.rcPrev = true → s.rcIn = false →
    (s.time + 1) % 2 ^ s.cfg.timeW % 2 ^ s.cfg.tickShift ≠ 0 →
    ∀ e : Nat, (e : Int) = (((s.time + 1) % 2 ^ s.cfg.timeW : Nat) - (s.pulseStart : Int)) % (2 ^ s.cfg.timeW : Nat) →
      s.cfg.pwMin ≤ e → e ≤ s.cfg.pwMax →
      ∃ t, exec .cycle s = .next t ∧
        t.targetState = (decodeValid s.cfg e).1 ∧ t.targetPower = (decodeValid s.cfg e).2 ∧
        (t.targetState = s.motorState → t.phase = .idle ∧ t.duty = t.targetPower) ∧
        (t.targetState ≠ s.motorState → t.phase = .dead1 ∧ t.seqCnt = s.cfg.dead)

/-- R127: after RESET and n CYCLE steps (n < 2^32) the run has met no fault, TIME is n and PWM_CNT is n mod 255, whatever the
input levels. -/
def Obligations.TimeAndPwmCountTheCyclesSinceReset : Prop :=
  ∀ ls : List Bool, ls.length < 2 ^ 32 →
    ∃ t, runLevels ls State.reset = .next t ∧ t.time = ls.length ∧ t.pwmCnt = ls.length % 255

/-! ### Reset, conditions and stimulus -/

/-- R280: RESET in any state, by its operation word or by its stimulus word, sets every register to its reset value and
emits the record `0: RESET`; the configuration is no register. -/
def Obligations.ResetSetsEveryRegister : Prop :=
  ∀ s : State, exec .stimReset s = exec .reset s ∧
    ∃ t, exec .reset s = .next t ∧
      t.time = 0 ∧ t.pulseStart = 0 ∧ t.wdCnt = 0 ∧ t.targetState = .brake ∧ t.targetPower = 0 ∧
      t.motorState = .uninit ∧ t.duty = 0 ∧ t.dutySh = 0 ∧ t.pwmCnt = 0 ∧
      t.sw = ⟨false, false, false, false⟩ ∧ t.rcPrev = false ∧ t.pend = ⟨false, false, false, false⟩ ∧
      t.phase = .idle ∧ t.tgt = .uninit ∧ t.seqCnt = 0 ∧ t.cfg = s.cfg ∧
      t.trace = ⟨0, 0xF0, none⟩ :: s.trace

/-- R250, R251: a condition record changes no register and no output, only the trace. The payload of a DISCARD performed on
its own is the elapsed width (log 13); the reason of a FAULT performed on its own is any of the four (log 14). -/
def Obligations.ConditionRecordsChangeOnlyTheTrace : Prop :=
  ∀ s : State,
    exec .condDiscard s = .next { s with trace := ⟨s.time, 0xC1, some (elapsed s)⟩ :: s.trace } ∧
    exec .condWdForce s = .next { s with trace := ⟨s.time, 0xC2, none⟩ :: s.trace } ∧
    exec .condCoalescedEdge s = .next { s with trace := ⟨s.time, 0xC4, none⟩ :: s.trace } ∧
    exec .condCoalescedTick s = .next { s with trace := ⟨s.time, 0xC5, none⟩ :: s.trace } ∧
    exec .condCoalescedStart s = .next { s with trace := ⟨s.time, 0xC6, none⟩ :: s.trace } ∧
    exec .condCoalescedMatch s = .next { s with trace := ⟨s.time, 0xC7, none⟩ :: s.trace } ∧
    (∃ n, 1 ≤ n ∧ n ≤ 4 ∧
      exec .condFault s = .next { s with trace := ⟨s.time, 0xCF, some n⟩ :: s.trace, free := s.free + 1 })

/-- R90: a stimulus word with COUNT n + 1 is one CYCLE at its LEVEL followed by the word with COUNT n. That one step of the
model performs them all is its choice (log 19); COUNT 0 has no word (R91), and its meaning here only closes the recursion. -/
def Obligations.StimulusRunIsConsecutiveCycles : Prop :=
  ∀ (s : State) (level : Bool) (count : BitVec 31),
    (count = 0 → exec (.stimRun level count) s = .next { s with rcIn := level }) ∧
    (count ≠ 0 → exec (.stimRun level count) s =
      andThen (exec .cycle { s with rcIn := level }) (exec (.stimRun level (count - 1))))

/-- From a boundary state a stimulus word completes: its COUNT cycles meet no fault, TIME has advanced by COUNT, the level is
the one last sampled, and the state is a boundary state again (R90, R123, R206). -/
def Obligations.StimulusRunCompletesFromABoundary : Prop :=
  ∀ (s : State) (level : Bool) (count : BitVec 31), s.boundary = true → count ≠ 0 →
    ∃ t, exec (.stimRun level count) s = .next t ∧ t.boundary = true ∧
      t.time = (s.time + count.toNat) % 2 ^ s.cfg.timeW ∧ t.rcPrev = level ∧ t.cfg = s.cfg

/-! ### Frames and invariants -/

/-- R38: no micro-operation writes a register that is not marked W in its row of the access matrix (ARB with the GO it
performs). -/
def Obligations.AccessMatrixBoundsEveryWrite : Prop :=
  ∀ (i : Instr) (s t : State) (r : Reg), exec i s = .next t → r ∉ mayWrite i → t.read r = s.read r

/-- No instruction changes the configuration (R20) or a record already emitted (R94). The rest is about fields that are the
model's own, which no rule names: the queues `ops` and `stims` stay as they are (log 5), the started flag once set stays set
(log 15), and only STIM RUN drives the level `rcIn` (log 5). Of the model's other fields, `ev` (log 7), `pins` (log 12) and
`free` (log 21), it says nothing: SAMPLE writes `ev` and CYCLE all three. That the configuration and the trace are fields of State, the
trace newest first, is the model's choice too (log 1, log 3). -/
def Obligations.NoInstructionChangesConfigurationOrPastTrace : Prop :=
  ∀ (i : Instr) (s t : State), exec i s = .next t →
    t.cfg = s.cfg ∧ t.ops = s.ops ∧ t.stims = s.stims ∧ (s.started = true → t.started = true) ∧
      (∃ rs, t.trace = rs ++ s.trace) ∧ ((∀ l c, i ≠ .stimRun l c) → t.rcIn = s.rcIn)

/-- The state after RESET is a boundary state with every register within its width (R280, R206). -/
def Obligations.ResetStateIsSafe : Prop :=
  State.reset.driven = true ∧ State.reset.sound = true

/-- R206, R264, R258: the boundary invariant is kept by every step that is driven by inputs alone, RESET, stimulus words and
free-running periods among them, and such a step meets no fault and no refusal. -/
def Obligations.EveryDrivenStepKeepsTheBoundary : Prop :=
  ∀ s : State, s.driven = true → ∃ t, step s = .next t ∧ t.driven = true

/-- R13, R24, R25: whatever operation words are performed in whatever order, every step keeps every register within its
width, WD_CNT within P_WD_MAX and TARGET_STATE out of Uninitialized. -/
def Obligations.EveryStepKeepsTheRegisterWidths : Prop :=
  ∀ s t : State, s.sound = true → step s = .next t → t.sound = true

/-- R205, R206: from a boundary state a cycle completes in a boundary state, and along its switch records every bank, from
the one it began with to the one it ends with, keeps each leg of the power stage from conducting on both sides. -/
def Obligations.NoShootThroughAfterAnyMicroOperation : Prop :=
  ∀ s : State, s.boundary = true →
    ∃ t rs, exec .cycle s = .next t ∧ t.boundary = true ∧ t.log = s.log ++ rs ∧
      (∀ w ∈ s.sw :: banksAlong s.sw rs, w.legsOk = true) ∧
      (banksAlong s.sw rs).getLastD s.sw = t.sw

/-- R123, R125 as one step: from every boundary state a CYCLE at any level completes in a boundary state with TIME one more
modulo 2^P_TIME_W, PWM_CNT 0 and DUTY copied at the end of the period and else PWM_CNT one more and the copy kept, and
RC_PREV at that level; busy or idle. -/
def Obligations.EveryCycleAdvancesTimeAndPwmCount : Prop :=
  ∀ (s : State) (level : Bool), s.boundary = true →
    ∃ t, exec .cycle (driveRc level s) = .next t ∧ t.boundary = true ∧
      t.time = (s.time + 1) % 2 ^ s.cfg.timeW ∧ t.rcPrev = level ∧
      (s.pwmCnt = s.cfg.pwmPeriod - 1 → t.pwmCnt = 0 ∧ t.dutySh = s.duty) ∧
      (s.pwmCnt ≠ s.cfg.pwmPeriod - 1 → t.pwmCnt = s.pwmCnt + 1 ∧ t.dutySh = s.dutySh)
end

