-- ==== Sys2Proof/Laws/State.lean ====
section
/-! SUPPORT. For each update of State that the operations share, one lemma per field, true by rfl: no proof unfolds a
record update. -/

namespace Sys2Proof.Machine

variable (n : Nat) (i : Instr) (p : Option Nat) (k : EventSource) (b : Bool) (x : SwitchId) (s : State)

@[simp] theorem emitAt_time : (emitAt n i p s).time = s.time := rfl
@[simp] theorem emitAt_pulseStart : (emitAt n i p s).pulseStart = s.pulseStart := rfl
@[simp] theorem emitAt_wdCnt : (emitAt n i p s).wdCnt = s.wdCnt := rfl
@[simp] theorem emitAt_targetState : (emitAt n i p s).targetState = s.targetState := rfl
@[simp] theorem emitAt_targetPower : (emitAt n i p s).targetPower = s.targetPower := rfl
@[simp] theorem emitAt_motorState : (emitAt n i p s).motorState = s.motorState := rfl
@[simp] theorem emitAt_duty : (emitAt n i p s).duty = s.duty := rfl
@[simp] theorem emitAt_dutySh : (emitAt n i p s).dutySh = s.dutySh := rfl
@[simp] theorem emitAt_pwmCnt : (emitAt n i p s).pwmCnt = s.pwmCnt := rfl
@[simp] theorem emitAt_sw : (emitAt n i p s).sw = s.sw := rfl
@[simp] theorem emitAt_rcPrev : (emitAt n i p s).rcPrev = s.rcPrev := rfl
@[simp] theorem emitAt_pend : (emitAt n i p s).pend = s.pend := rfl
@[simp] theorem emitAt_phase : (emitAt n i p s).phase = s.phase := rfl
@[simp] theorem emitAt_tgt : (emitAt n i p s).tgt = s.tgt := rfl
@[simp] theorem emitAt_seqCnt : (emitAt n i p s).seqCnt = s.seqCnt := rfl
@[simp] theorem emitAt_rcIn : (emitAt n i p s).rcIn = s.rcIn := rfl
@[simp] theorem emitAt_pins : (emitAt n i p s).pins = s.pins := rfl
@[simp] theorem emitAt_ev : (emitAt n i p s).ev = s.ev := rfl
@[simp] theorem emitAt_cfg : (emitAt n i p s).cfg = s.cfg := rfl
@[simp] theorem emitAt_ops : (emitAt n i p s).ops = s.ops := rfl
@[simp] theorem emitAt_stims : (emitAt n i p s).stims = s.stims := rfl
@[simp] theorem emitAt_trace : (emitAt n i p s).trace = ⟨n, recordWord i, p⟩ :: s.trace := rfl
@[simp] theorem emitAt_free : (emitAt n i p s).free = s.free := rfl
@[simp] theorem emitAt_started : (emitAt n i p s).started = s.started := rfl

@[simp] theorem emit_time : (emit i p s).time = s.time := rfl
@[simp] theorem emit_pulseStart : (emit i p s).pulseStart = s.pulseStart := rfl
@[simp] theorem emit_wdCnt : (emit i p s).wdCnt = s.wdCnt := rfl
@[simp] theorem emit_targetState : (emit i p s).targetState = s.targetState := rfl
@[simp] theorem emit_targetPower : (emit i p s).targetPower = s.targetPower := rfl
@[simp] theorem emit_motorState : (emit i p s).motorState = s.motorState := rfl
@[simp] theorem emit_duty : (emit i p s).duty = s.duty := rfl
@[simp] theorem emit_dutySh : (emit i p s).dutySh = s.dutySh := rfl
@[simp] theorem emit_pwmCnt : (emit i p s).pwmCnt = s.pwmCnt := rfl
@[simp] theorem emit_sw : (emit i p s).sw = s.sw := rfl
@[simp] theorem emit_rcPrev : (emit i p s).rcPrev = s.rcPrev := rfl
@[simp] theorem emit_pend : (emit i p s).pend = s.pend := rfl
@[simp] theorem emit_phase : (emit i p s).phase = s.phase := rfl
@[simp] theorem emit_tgt : (emit i p s).tgt = s.tgt := rfl
@[simp] theorem emit_seqCnt : (emit i p s).seqCnt = s.seqCnt := rfl
@[simp] theorem emit_rcIn : (emit i p s).rcIn = s.rcIn := rfl
@[simp] theorem emit_pins : (emit i p s).pins = s.pins := rfl
@[simp] theorem emit_ev : (emit i p s).ev = s.ev := rfl
@[simp] theorem emit_cfg : (emit i p s).cfg = s.cfg := rfl
@[simp] theorem emit_ops : (emit i p s).ops = s.ops := rfl
@[simp] theorem emit_stims : (emit i p s).stims = s.stims := rfl
@[simp] theorem emit_trace : (emit i p s).trace = ⟨s.time, recordWord i, p⟩ :: s.trace := rfl
@[simp] theorem emit_free : (emit i p s).free = s.free := rfl
@[simp] theorem emit_started : (emit i p s).started = s.started := rfl

@[simp] theorem writeTime_time (v : Nat) : (writeTime v s).time = v := rfl
@[simp] theorem writeTime_pulseStart (v : Nat) : (writeTime v s).pulseStart = s.pulseStart := rfl
@[simp] theorem writeTime_wdCnt (v : Nat) : (writeTime v s).wdCnt = s.wdCnt := rfl
@[simp] theorem writeTime_targetState (v : Nat) : (writeTime v s).targetState = s.targetState := rfl
@[simp] theorem writeTime_targetPower (v : Nat) : (writeTime v s).targetPower = s.targetPower := rfl
@[simp] theorem writeTime_motorState (v : Nat) : (writeTime v s).motorState = s.motorState := rfl
@[simp] theorem writeTime_duty (v : Nat) : (writeTime v s).duty = s.duty := rfl
@[simp] theorem writeTime_dutySh (v : Nat) : (writeTime v s).dutySh = s.dutySh := rfl
@[simp] theorem writeTime_pwmCnt (v : Nat) : (writeTime v s).pwmCnt = s.pwmCnt := rfl
@[simp] theorem writeTime_sw (v : Nat) : (writeTime v s).sw = s.sw := rfl
@[simp] theorem writeTime_rcPrev (v : Nat) : (writeTime v s).rcPrev = s.rcPrev := rfl
@[simp] theorem writeTime_pend (v : Nat) : (writeTime v s).pend = s.pend := rfl
@[simp] theorem writeTime_phase (v : Nat) : (writeTime v s).phase = s.phase := rfl
@[simp] theorem writeTime_tgt (v : Nat) : (writeTime v s).tgt = s.tgt := rfl
@[simp] theorem writeTime_seqCnt (v : Nat) : (writeTime v s).seqCnt = s.seqCnt := rfl
@[simp] theorem writeTime_rcIn (v : Nat) : (writeTime v s).rcIn = s.rcIn := rfl
@[simp] theorem writeTime_pins (v : Nat) : (writeTime v s).pins = s.pins := rfl
@[simp] theorem writeTime_ev (v : Nat) : (writeTime v s).ev = s.ev := rfl
@[simp] theorem writeTime_cfg (v : Nat) : (writeTime v s).cfg = s.cfg := rfl
@[simp] theorem writeTime_ops (v : Nat) : (writeTime v s).ops = s.ops := rfl
@[simp] theorem writeTime_stims (v : Nat) : (writeTime v s).stims = s.stims := rfl
@[simp] theorem writeTime_trace (v : Nat) : (writeTime v s).trace = s.trace := rfl
@[simp] theorem writeTime_free (v : Nat) : (writeTime v s).free = s.free := rfl
@[simp] theorem writeTime_started (v : Nat) : (writeTime v s).started = s.started := rfl

@[simp] theorem writePulseStart_time (v : Nat) : (writePulseStart v s).time = s.time := rfl
@[simp] theorem writePulseStart_pulseStart (v : Nat) : (writePulseStart v s).pulseStart = v := rfl
@[simp] theorem writePulseStart_wdCnt (v : Nat) : (writePulseStart v s).wdCnt = s.wdCnt := rfl
@[simp] theorem writePulseStart_targetState (v : Nat) : (writePulseStart v s).targetState = s.targetState := rfl
@[simp] theorem writePulseStart_targetPower (v : Nat) : (writePulseStart v s).targetPower = s.targetPower := rfl
@[simp] theorem writePulseStart_motorState (v : Nat) : (writePulseStart v s).motorState = s.motorState := rfl
@[simp] theorem writePulseStart_duty (v : Nat) : (writePulseStart v s).duty = s.duty := rfl
@[simp] theorem writePulseStart_dutySh (v : Nat) : (writePulseStart v s).dutySh = s.dutySh := rfl
@[simp] theorem writePulseStart_pwmCnt (v : Nat) : (writePulseStart v s).pwmCnt = s.pwmCnt := rfl
@[simp] theorem writePulseStart_sw (v : Nat) : (writePulseStart v s).sw = s.sw := rfl
@[simp] theorem writePulseStart_rcPrev (v : Nat) : (writePulseStart v s).rcPrev = s.rcPrev := rfl
@[simp] theorem writePulseStart_pend (v : Nat) : (writePulseStart v s).pend = s.pend := rfl
@[simp] theorem writePulseStart_phase (v : Nat) : (writePulseStart v s).phase = s.phase := rfl
@[simp] theorem writePulseStart_tgt (v : Nat) : (writePulseStart v s).tgt = s.tgt := rfl
@[simp] theorem writePulseStart_seqCnt (v : Nat) : (writePulseStart v s).seqCnt = s.seqCnt := rfl
@[simp] theorem writePulseStart_rcIn (v : Nat) : (writePulseStart v s).rcIn = s.rcIn := rfl
@[simp] theorem writePulseStart_pins (v : Nat) : (writePulseStart v s).pins = s.pins := rfl
@[simp] theorem writePulseStart_ev (v : Nat) : (writePulseStart v s).ev = s.ev := rfl
@[simp] theorem writePulseStart_cfg (v : Nat) : (writePulseStart v s).cfg = s.cfg := rfl
@[simp] theorem writePulseStart_ops (v : Nat) : (writePulseStart v s).ops = s.ops := rfl
@[simp] theorem writePulseStart_stims (v : Nat) : (writePulseStart v s).stims = s.stims := rfl
@[simp] theorem writePulseStart_trace (v : Nat) : (writePulseStart v s).trace = s.trace := rfl
@[simp] theorem writePulseStart_free (v : Nat) : (writePulseStart v s).free = s.free := rfl
@[simp] theorem writePulseStart_started (v : Nat) : (writePulseStart v s).started = s.started := rfl

@[simp] theorem writeWdCnt_time (v : Nat) : (writeWdCnt v s).time = s.time := rfl
@[simp] theorem writeWdCnt_pulseStart (v : Nat) : (writeWdCnt v s).pulseStart = s.pulseStart := rfl
@[simp] theorem writeWdCnt_wdCnt (v : Nat) : (writeWdCnt v s).wdCnt = v := rfl
@[simp] theorem writeWdCnt_targetState (v : Nat) : (writeWdCnt v s).targetState = s.targetState := rfl
@[simp] theorem writeWdCnt_targetPower (v : Nat) : (writeWdCnt v s).targetPower = s.targetPower := rfl
@[simp] theorem writeWdCnt_motorState (v : Nat) : (writeWdCnt v s).motorState = s.motorState := rfl
@[simp] theorem writeWdCnt_duty (v : Nat) : (writeWdCnt v s).duty = s.duty := rfl
@[simp] theorem writeWdCnt_dutySh (v : Nat) : (writeWdCnt v s).dutySh = s.dutySh := rfl
@[simp] theorem writeWdCnt_pwmCnt (v : Nat) : (writeWdCnt v s).pwmCnt = s.pwmCnt := rfl
@[simp] theorem writeWdCnt_sw (v : Nat) : (writeWdCnt v s).sw = s.sw := rfl
@[simp] theorem writeWdCnt_rcPrev (v : Nat) : (writeWdCnt v s).rcPrev = s.rcPrev := rfl
@[simp] theorem writeWdCnt_pend (v : Nat) : (writeWdCnt v s).pend = s.pend := rfl
@[simp] theorem writeWdCnt_phase (v : Nat) : (writeWdCnt v s).phase = s.phase := rfl
@[simp] theorem writeWdCnt_tgt (v : Nat) : (writeWdCnt v s).tgt = s.tgt := rfl
@[simp] theorem writeWdCnt_seqCnt (v : Nat) : (writeWdCnt v s).seqCnt = s.seqCnt := rfl
@[simp] theorem writeWdCnt_rcIn (v : Nat) : (writeWdCnt v s).rcIn = s.rcIn := rfl
@[simp] theorem writeWdCnt_pins (v : Nat) : (writeWdCnt v s).pins = s.pins := rfl
@[simp] theorem writeWdCnt_ev (v : Nat) : (writeWdCnt v s).ev = s.ev := rfl
@[simp] theorem writeWdCnt_cfg (v : Nat) : (writeWdCnt v s).cfg = s.cfg := rfl
@[simp] theorem writeWdCnt_ops (v : Nat) : (writeWdCnt v s).ops = s.ops := rfl
@[simp] theorem writeWdCnt_stims (v : Nat) : (writeWdCnt v s).stims = s.stims := rfl
@[simp] theorem writeWdCnt_trace (v : Nat) : (writeWdCnt v s).trace = s.trace := rfl
@[simp] theorem writeWdCnt_free (v : Nat) : (writeWdCnt v s).free = s.free := rfl
@[simp] theorem writeWdCnt_started (v : Nat) : (writeWdCnt v s).started = s.started := rfl

@[simp] theorem writeTargetState_time (v : MotorState) : (writeTargetState v s).time = s.time := rfl
@[simp] theorem writeTargetState_pulseStart (v : MotorState) : (writeTargetState v s).pulseStart = s.pulseStart := rfl
@[simp] theorem writeTargetState_wdCnt (v : MotorState) : (writeTargetState v s).wdCnt = s.wdCnt := rfl
@[simp] theorem writeTargetState_targetState (v : MotorState) : (writeTargetState v s).targetState = v := rfl
@[simp] theorem writeTargetState_targetPower (v : MotorState) : (writeTargetState v s).targetPower = s.targetPower := rfl
@[simp] theorem writeTargetState_motorState (v : MotorState) : (writeTargetState v s).motorState = s.motorState := rfl
@[simp] theorem writeTargetState_duty (v : MotorState) : (writeTargetState v s).duty = s.duty := rfl
@[simp] theorem writeTargetState_dutySh (v : MotorState) : (writeTargetState v s).dutySh = s.dutySh := rfl
@[simp] theorem writeTargetState_pwmCnt (v : MotorState) : (writeTargetState v s).pwmCnt = s.pwmCnt := rfl
@[simp] theorem writeTargetState_sw (v : MotorState) : (writeTargetState v s).sw = s.sw := rfl
@[simp] theorem writeTargetState_rcPrev (v : MotorState) : (writeTargetState v s).rcPrev = s.rcPrev := rfl
@[simp] theorem writeTargetState_pend (v : MotorState) : (writeTargetState v s).pend = s.pend := rfl
@[simp] theorem writeTargetState_phase (v : MotorState) : (writeTargetState v s).phase = s.phase := rfl
@[simp] theorem writeTargetState_tgt (v : MotorState) : (writeTargetState v s).tgt = s.tgt := rfl
@[simp] theorem writeTargetState_seqCnt (v : MotorState) : (writeTargetState v s).seqCnt = s.seqCnt := rfl
@[simp] theorem writeTargetState_rcIn (v : MotorState) : (writeTargetState v s).rcIn = s.rcIn := rfl
@[simp] theorem writeTargetState_pins (v : MotorState) : (writeTargetState v s).pins = s.pins := rfl
@[simp] theorem writeTargetState_ev (v : MotorState) : (writeTargetState v s).ev = s.ev := rfl
@[simp] theorem writeTargetState_cfg (v : MotorState) : (writeTargetState v s).cfg = s.cfg := rfl
@[simp] theorem writeTargetState_ops (v : MotorState) : (writeTargetState v s).ops = s.ops := rfl
@[simp] theorem writeTargetState_stims (v : MotorState) : (writeTargetState v s).stims = s.stims := rfl
@[simp] theorem writeTargetState_trace (v : MotorState) : (writeTargetState v s).trace = s.trace := rfl
@[simp] theorem writeTargetState_free (v : MotorState) : (writeTargetState v s).free = s.free := rfl
@[simp] theorem writeTargetState_started (v : MotorState) : (writeTargetState v s).started = s.started := rfl

@[simp] theorem writeTargetPower_time (v : Nat) : (writeTargetPower v s).time = s.time := rfl
@[simp] theorem writeTargetPower_pulseStart (v : Nat) : (writeTargetPower v s).pulseStart = s.pulseStart := rfl
@[simp] theorem writeTargetPower_wdCnt (v : Nat) : (writeTargetPower v s).wdCnt = s.wdCnt := rfl
@[simp] theorem writeTargetPower_targetState (v : Nat) : (writeTargetPower v s).targetState = s.targetState := rfl
@[simp] theorem writeTargetPower_targetPower (v : Nat) : (writeTargetPower v s).targetPower = v := rfl
@[simp] theorem writeTargetPower_motorState (v : Nat) : (writeTargetPower v s).motorState = s.motorState := rfl
@[simp] theorem writeTargetPower_duty (v : Nat) : (writeTargetPower v s).duty = s.duty := rfl
@[simp] theorem writeTargetPower_dutySh (v : Nat) : (writeTargetPower v s).dutySh = s.dutySh := rfl
@[simp] theorem writeTargetPower_pwmCnt (v : Nat) : (writeTargetPower v s).pwmCnt = s.pwmCnt := rfl
@[simp] theorem writeTargetPower_sw (v : Nat) : (writeTargetPower v s).sw = s.sw := rfl
@[simp] theorem writeTargetPower_rcPrev (v : Nat) : (writeTargetPower v s).rcPrev = s.rcPrev := rfl
@[simp] theorem writeTargetPower_pend (v : Nat) : (writeTargetPower v s).pend = s.pend := rfl
@[simp] theorem writeTargetPower_phase (v : Nat) : (writeTargetPower v s).phase = s.phase := rfl
@[simp] theorem writeTargetPower_tgt (v : Nat) : (writeTargetPower v s).tgt = s.tgt := rfl
@[simp] theorem writeTargetPower_seqCnt (v : Nat) : (writeTargetPower v s).seqCnt = s.seqCnt := rfl
@[simp] theorem writeTargetPower_rcIn (v : Nat) : (writeTargetPower v s).rcIn = s.rcIn := rfl
@[simp] theorem writeTargetPower_pins (v : Nat) : (writeTargetPower v s).pins = s.pins := rfl
@[simp] theorem writeTargetPower_ev (v : Nat) : (writeTargetPower v s).ev = s.ev := rfl
@[simp] theorem writeTargetPower_cfg (v : Nat) : (writeTargetPower v s).cfg = s.cfg := rfl
@[simp] theorem writeTargetPower_ops (v : Nat) : (writeTargetPower v s).ops = s.ops := rfl
@[simp] theorem writeTargetPower_stims (v : Nat) : (writeTargetPower v s).stims = s.stims := rfl
@[simp] theorem writeTargetPower_trace (v : Nat) : (writeTargetPower v s).trace = s.trace := rfl
@[simp] theorem writeTargetPower_free (v : Nat) : (writeTargetPower v s).free = s.free := rfl
@[simp] theorem writeTargetPower_started (v : Nat) : (writeTargetPower v s).started = s.started := rfl

@[simp] theorem writeMotorState_time (v : MotorState) : (writeMotorState v s).time = s.time := rfl
@[simp] theorem writeMotorState_pulseStart (v : MotorState) : (writeMotorState v s).pulseStart = s.pulseStart := rfl
@[simp] theorem writeMotorState_wdCnt (v : MotorState) : (writeMotorState v s).wdCnt = s.wdCnt := rfl
@[simp] theorem writeMotorState_targetState (v : MotorState) : (writeMotorState v s).targetState = s.targetState := rfl
@[simp] theorem writeMotorState_targetPower (v : MotorState) : (writeMotorState v s).targetPower = s.targetPower := rfl
@[simp] theorem writeMotorState_motorState (v : MotorState) : (writeMotorState v s).motorState = v := rfl
@[simp] theorem writeMotorState_duty (v : MotorState) : (writeMotorState v s).duty = s.duty := rfl
@[simp] theorem writeMotorState_dutySh (v : MotorState) : (writeMotorState v s).dutySh = s.dutySh := rfl
@[simp] theorem writeMotorState_pwmCnt (v : MotorState) : (writeMotorState v s).pwmCnt = s.pwmCnt := rfl
@[simp] theorem writeMotorState_sw (v : MotorState) : (writeMotorState v s).sw = s.sw := rfl
@[simp] theorem writeMotorState_rcPrev (v : MotorState) : (writeMotorState v s).rcPrev = s.rcPrev := rfl
@[simp] theorem writeMotorState_pend (v : MotorState) : (writeMotorState v s).pend = s.pend := rfl
@[simp] theorem writeMotorState_phase (v : MotorState) : (writeMotorState v s).phase = s.phase := rfl
@[simp] theorem writeMotorState_tgt (v : MotorState) : (writeMotorState v s).tgt = s.tgt := rfl
@[simp] theorem writeMotorState_seqCnt (v : MotorState) : (writeMotorState v s).seqCnt = s.seqCnt := rfl
@[simp] theorem writeMotorState_rcIn (v : MotorState) : (writeMotorState v s).rcIn = s.rcIn := rfl
@[simp] theorem writeMotorState_pins (v : MotorState) : (writeMotorState v s).pins = s.pins := rfl
@[simp] theorem writeMotorState_ev (v : MotorState) : (writeMotorState v s).ev = s.ev := rfl
@[simp] theorem writeMotorState_cfg (v : MotorState) : (writeMotorState v s).cfg = s.cfg := rfl
@[simp] theorem writeMotorState_ops (v : MotorState) : (writeMotorState v s).ops = s.ops := rfl
@[simp] theorem writeMotorState_stims (v : MotorState) : (writeMotorState v s).stims = s.stims := rfl
@[simp] theorem writeMotorState_trace (v : MotorState) : (writeMotorState v s).trace = s.trace := rfl
@[simp] theorem writeMotorState_free (v : MotorState) : (writeMotorState v s).free = s.free := rfl
@[simp] theorem writeMotorState_started (v : MotorState) : (writeMotorState v s).started = s.started := rfl

@[simp] theorem writeDuty_time (v : Nat) : (writeDuty v s).time = s.time := rfl
@[simp] theorem writeDuty_pulseStart (v : Nat) : (writeDuty v s).pulseStart = s.pulseStart := rfl
@[simp] theorem writeDuty_wdCnt (v : Nat) : (writeDuty v s).wdCnt = s.wdCnt := rfl
@[simp] theorem writeDuty_targetState (v : Nat) : (writeDuty v s).targetState = s.targetState := rfl
@[simp] theorem writeDuty_targetPower (v : Nat) : (writeDuty v s).targetPower = s.targetPower := rfl
@[simp] theorem writeDuty_motorState (v : Nat) : (writeDuty v s).motorState = s.motorState := rfl
@[simp] theorem writeDuty_duty (v : Nat) : (writeDuty v s).duty = v := rfl
@[simp] theorem writeDuty_dutySh (v : Nat) : (writeDuty v s).dutySh = s.dutySh := rfl
@[simp] theorem writeDuty_pwmCnt (v : Nat) : (writeDuty v s).pwmCnt = s.pwmCnt := rfl
@[simp] theorem writeDuty_sw (v : Nat) : (writeDuty v s).sw = s.sw := rfl
@[simp] theorem writeDuty_rcPrev (v : Nat) : (writeDuty v s).rcPrev = s.rcPrev := rfl
@[simp] theorem writeDuty_pend (v : Nat) : (writeDuty v s).pend = s.pend := rfl
@[simp] theorem writeDuty_phase (v : Nat) : (writeDuty v s).phase = s.phase := rfl
@[simp] theorem writeDuty_tgt (v : Nat) : (writeDuty v s).tgt = s.tgt := rfl
@[simp] theorem writeDuty_seqCnt (v : Nat) : (writeDuty v s).seqCnt = s.seqCnt := rfl
@[simp] theorem writeDuty_rcIn (v : Nat) : (writeDuty v s).rcIn = s.rcIn := rfl
@[simp] theorem writeDuty_pins (v : Nat) : (writeDuty v s).pins = s.pins := rfl
@[simp] theorem writeDuty_ev (v : Nat) : (writeDuty v s).ev = s.ev := rfl
@[simp] theorem writeDuty_cfg (v : Nat) : (writeDuty v s).cfg = s.cfg := rfl
@[simp] theorem writeDuty_ops (v : Nat) : (writeDuty v s).ops = s.ops := rfl
@[simp] theorem writeDuty_stims (v : Nat) : (writeDuty v s).stims = s.stims := rfl
@[simp] theorem writeDuty_trace (v : Nat) : (writeDuty v s).trace = s.trace := rfl
@[simp] theorem writeDuty_free (v : Nat) : (writeDuty v s).free = s.free := rfl
@[simp] theorem writeDuty_started (v : Nat) : (writeDuty v s).started = s.started := rfl

@[simp] theorem writeDutySh_time (v : Nat) : (writeDutySh v s).time = s.time := rfl
@[simp] theorem writeDutySh_pulseStart (v : Nat) : (writeDutySh v s).pulseStart = s.pulseStart := rfl
@[simp] theorem writeDutySh_wdCnt (v : Nat) : (writeDutySh v s).wdCnt = s.wdCnt := rfl
@[simp] theorem writeDutySh_targetState (v : Nat) : (writeDutySh v s).targetState = s.targetState := rfl
@[simp] theorem writeDutySh_targetPower (v : Nat) : (writeDutySh v s).targetPower = s.targetPower := rfl
@[simp] theorem writeDutySh_motorState (v : Nat) : (writeDutySh v s).motorState = s.motorState := rfl
@[simp] theorem writeDutySh_duty (v : Nat) : (writeDutySh v s).duty = s.duty := rfl
@[simp] theorem writeDutySh_dutySh (v : Nat) : (writeDutySh v s).dutySh = v := rfl
@[simp] theorem writeDutySh_pwmCnt (v : Nat) : (writeDutySh v s).pwmCnt = s.pwmCnt := rfl
@[simp] theorem writeDutySh_sw (v : Nat) : (writeDutySh v s).sw = s.sw := rfl
@[simp] theorem writeDutySh_rcPrev (v : Nat) : (writeDutySh v s).rcPrev = s.rcPrev := rfl
@[simp] theorem writeDutySh_pend (v : Nat) : (writeDutySh v s).pend = s.pend := rfl
@[simp] theorem writeDutySh_phase (v : Nat) : (writeDutySh v s).phase = s.phase := rfl
@[simp] theorem writeDutySh_tgt (v : Nat) : (writeDutySh v s).tgt = s.tgt := rfl
@[simp] theorem writeDutySh_seqCnt (v : Nat) : (writeDutySh v s).seqCnt = s.seqCnt := rfl
@[simp] theorem writeDutySh_rcIn (v : Nat) : (writeDutySh v s).rcIn = s.rcIn := rfl
@[simp] theorem writeDutySh_pins (v : Nat) : (writeDutySh v s).pins = s.pins := rfl
@[simp] theorem writeDutySh_ev (v : Nat) : (writeDutySh v s).ev = s.ev := rfl
@[simp] theorem writeDutySh_cfg (v : Nat) : (writeDutySh v s).cfg = s.cfg := rfl
@[simp] theorem writeDutySh_ops (v : Nat) : (writeDutySh v s).ops = s.ops := rfl
@[simp] theorem writeDutySh_stims (v : Nat) : (writeDutySh v s).stims = s.stims := rfl
@[simp] theorem writeDutySh_trace (v : Nat) : (writeDutySh v s).trace = s.trace := rfl
@[simp] theorem writeDutySh_free (v : Nat) : (writeDutySh v s).free = s.free := rfl
@[simp] theorem writeDutySh_started (v : Nat) : (writeDutySh v s).started = s.started := rfl

@[simp] theorem writePwmCnt_time (v : Nat) : (writePwmCnt v s).time = s.time := rfl
@[simp] theorem writePwmCnt_pulseStart (v : Nat) : (writePwmCnt v s).pulseStart = s.pulseStart := rfl
@[simp] theorem writePwmCnt_wdCnt (v : Nat) : (writePwmCnt v s).wdCnt = s.wdCnt := rfl
@[simp] theorem writePwmCnt_targetState (v : Nat) : (writePwmCnt v s).targetState = s.targetState := rfl
@[simp] theorem writePwmCnt_targetPower (v : Nat) : (writePwmCnt v s).targetPower = s.targetPower := rfl
@[simp] theorem writePwmCnt_motorState (v : Nat) : (writePwmCnt v s).motorState = s.motorState := rfl
@[simp] theorem writePwmCnt_duty (v : Nat) : (writePwmCnt v s).duty = s.duty := rfl
@[simp] theorem writePwmCnt_dutySh (v : Nat) : (writePwmCnt v s).dutySh = s.dutySh := rfl
@[simp] theorem writePwmCnt_pwmCnt (v : Nat) : (writePwmCnt v s).pwmCnt = v := rfl
@[simp] theorem writePwmCnt_sw (v : Nat) : (writePwmCnt v s).sw = s.sw := rfl
@[simp] theorem writePwmCnt_rcPrev (v : Nat) : (writePwmCnt v s).rcPrev = s.rcPrev := rfl
@[simp] theorem writePwmCnt_pend (v : Nat) : (writePwmCnt v s).pend = s.pend := rfl
@[simp] theorem writePwmCnt_phase (v : Nat) : (writePwmCnt v s).phase = s.phase := rfl
@[simp] theorem writePwmCnt_tgt (v : Nat) : (writePwmCnt v s).tgt = s.tgt := rfl
@[simp] theorem writePwmCnt_seqCnt (v : Nat) : (writePwmCnt v s).seqCnt = s.seqCnt := rfl
@[simp] theorem writePwmCnt_rcIn (v : Nat) : (writePwmCnt v s).rcIn = s.rcIn := rfl
@[simp] theorem writePwmCnt_pins (v : Nat) : (writePwmCnt v s).pins = s.pins := rfl
@[simp] theorem writePwmCnt_ev (v : Nat) : (writePwmCnt v s).ev = s.ev := rfl
@[simp] theorem writePwmCnt_cfg (v : Nat) : (writePwmCnt v s).cfg = s.cfg := rfl
@[simp] theorem writePwmCnt_ops (v : Nat) : (writePwmCnt v s).ops = s.ops := rfl
@[simp] theorem writePwmCnt_stims (v : Nat) : (writePwmCnt v s).stims = s.stims := rfl
@[simp] theorem writePwmCnt_trace (v : Nat) : (writePwmCnt v s).trace = s.trace := rfl
@[simp] theorem writePwmCnt_free (v : Nat) : (writePwmCnt v s).free = s.free := rfl
@[simp] theorem writePwmCnt_started (v : Nat) : (writePwmCnt v s).started = s.started := rfl

@[simp] theorem writeSw_time (v : Switches) : (writeSw v s).time = s.time := rfl
@[simp] theorem writeSw_pulseStart (v : Switches) : (writeSw v s).pulseStart = s.pulseStart := rfl
@[simp] theorem writeSw_wdCnt (v : Switches) : (writeSw v s).wdCnt = s.wdCnt := rfl
@[simp] theorem writeSw_targetState (v : Switches) : (writeSw v s).targetState = s.targetState := rfl
@[simp] theorem writeSw_targetPower (v : Switches) : (writeSw v s).targetPower = s.targetPower := rfl
@[simp] theorem writeSw_motorState (v : Switches) : (writeSw v s).motorState = s.motorState := rfl
@[simp] theorem writeSw_duty (v : Switches) : (writeSw v s).duty = s.duty := rfl
@[simp] theorem writeSw_dutySh (v : Switches) : (writeSw v s).dutySh = s.dutySh := rfl
@[simp] theorem writeSw_pwmCnt (v : Switches) : (writeSw v s).pwmCnt = s.pwmCnt := rfl
@[simp] theorem writeSw_sw (v : Switches) : (writeSw v s).sw = v := rfl
@[simp] theorem writeSw_rcPrev (v : Switches) : (writeSw v s).rcPrev = s.rcPrev := rfl
@[simp] theorem writeSw_pend (v : Switches) : (writeSw v s).pend = s.pend := rfl
@[simp] theorem writeSw_phase (v : Switches) : (writeSw v s).phase = s.phase := rfl
@[simp] theorem writeSw_tgt (v : Switches) : (writeSw v s).tgt = s.tgt := rfl
@[simp] theorem writeSw_seqCnt (v : Switches) : (writeSw v s).seqCnt = s.seqCnt := rfl
@[simp] theorem writeSw_rcIn (v : Switches) : (writeSw v s).rcIn = s.rcIn := rfl
@[simp] theorem writeSw_pins (v : Switches) : (writeSw v s).pins = s.pins := rfl
@[simp] theorem writeSw_ev (v : Switches) : (writeSw v s).ev = s.ev := rfl
@[simp] theorem writeSw_cfg (v : Switches) : (writeSw v s).cfg = s.cfg := rfl
@[simp] theorem writeSw_ops (v : Switches) : (writeSw v s).ops = s.ops := rfl
@[simp] theorem writeSw_stims (v : Switches) : (writeSw v s).stims = s.stims := rfl
@[simp] theorem writeSw_trace (v : Switches) : (writeSw v s).trace = s.trace := rfl
@[simp] theorem writeSw_free (v : Switches) : (writeSw v s).free = s.free := rfl
@[simp] theorem writeSw_started (v : Switches) : (writeSw v s).started = s.started := rfl

@[simp] theorem writeRcPrev_time (v : Bool) : (writeRcPrev v s).time = s.time := rfl
@[simp] theorem writeRcPrev_pulseStart (v : Bool) : (writeRcPrev v s).pulseStart = s.pulseStart := rfl
@[simp] theorem writeRcPrev_wdCnt (v : Bool) : (writeRcPrev v s).wdCnt = s.wdCnt := rfl
@[simp] theorem writeRcPrev_targetState (v : Bool) : (writeRcPrev v s).targetState = s.targetState := rfl
@[simp] theorem writeRcPrev_targetPower (v : Bool) : (writeRcPrev v s).targetPower = s.targetPower := rfl
@[simp] theorem writeRcPrev_motorState (v : Bool) : (writeRcPrev v s).motorState = s.motorState := rfl
@[simp] theorem writeRcPrev_duty (v : Bool) : (writeRcPrev v s).duty = s.duty := rfl
@[simp] theorem writeRcPrev_dutySh (v : Bool) : (writeRcPrev v s).dutySh = s.dutySh := rfl
@[simp] theorem writeRcPrev_pwmCnt (v : Bool) : (writeRcPrev v s).pwmCnt = s.pwmCnt := rfl
@[simp] theorem writeRcPrev_sw (v : Bool) : (writeRcPrev v s).sw = s.sw := rfl
@[simp] theorem writeRcPrev_rcPrev (v : Bool) : (writeRcPrev v s).rcPrev = v := rfl
@[simp] theorem writeRcPrev_pend (v : Bool) : (writeRcPrev v s).pend = s.pend := rfl
@[simp] theorem writeRcPrev_phase (v : Bool) : (writeRcPrev v s).phase = s.phase := rfl
@[simp] theorem writeRcPrev_tgt (v : Bool) : (writeRcPrev v s).tgt = s.tgt := rfl
@[simp] theorem writeRcPrev_seqCnt (v : Bool) : (writeRcPrev v s).seqCnt = s.seqCnt := rfl
@[simp] theorem writeRcPrev_rcIn (v : Bool) : (writeRcPrev v s).rcIn = s.rcIn := rfl
@[simp] theorem writeRcPrev_pins (v : Bool) : (writeRcPrev v s).pins = s.pins := rfl
@[simp] theorem writeRcPrev_ev (v : Bool) : (writeRcPrev v s).ev = s.ev := rfl
@[simp] theorem writeRcPrev_cfg (v : Bool) : (writeRcPrev v s).cfg = s.cfg := rfl
@[simp] theorem writeRcPrev_ops (v : Bool) : (writeRcPrev v s).ops = s.ops := rfl
@[simp] theorem writeRcPrev_stims (v : Bool) : (writeRcPrev v s).stims = s.stims := rfl
@[simp] theorem writeRcPrev_trace (v : Bool) : (writeRcPrev v s).trace = s.trace := rfl
@[simp] theorem writeRcPrev_free (v : Bool) : (writeRcPrev v s).free = s.free := rfl
@[simp] theorem writeRcPrev_started (v : Bool) : (writeRcPrev v s).started = s.started := rfl

@[simp] theorem writePend_time (v : Events) : (writePend v s).time = s.time := rfl
@[simp] theorem writePend_pulseStart (v : Events) : (writePend v s).pulseStart = s.pulseStart := rfl
@[simp] theorem writePend_wdCnt (v : Events) : (writePend v s).wdCnt = s.wdCnt := rfl
@[simp] theorem writePend_targetState (v : Events) : (writePend v s).targetState = s.targetState := rfl
@[simp] theorem writePend_targetPower (v : Events) : (writePend v s).targetPower = s.targetPower := rfl
@[simp] theorem writePend_motorState (v : Events) : (writePend v s).motorState = s.motorState := rfl
@[simp] theorem writePend_duty (v : Events) : (writePend v s).duty = s.duty := rfl
@[simp] theorem writePend_dutySh (v : Events) : (writePend v s).dutySh = s.dutySh := rfl
@[simp] theorem writePend_pwmCnt (v : Events) : (writePend v s).pwmCnt = s.pwmCnt := rfl
@[simp] theorem writePend_sw (v : Events) : (writePend v s).sw = s.sw := rfl
@[simp] theorem writePend_rcPrev (v : Events) : (writePend v s).rcPrev = s.rcPrev := rfl
@[simp] theorem writePend_pend (v : Events) : (writePend v s).pend = v := rfl
@[simp] theorem writePend_phase (v : Events) : (writePend v s).phase = s.phase := rfl
@[simp] theorem writePend_tgt (v : Events) : (writePend v s).tgt = s.tgt := rfl
@[simp] theorem writePend_seqCnt (v : Events) : (writePend v s).seqCnt = s.seqCnt := rfl
@[simp] theorem writePend_rcIn (v : Events) : (writePend v s).rcIn = s.rcIn := rfl
@[simp] theorem writePend_pins (v : Events) : (writePend v s).pins = s.pins := rfl
@[simp] theorem writePend_ev (v : Events) : (writePend v s).ev = s.ev := rfl
@[simp] theorem writePend_cfg (v : Events) : (writePend v s).cfg = s.cfg := rfl
@[simp] theorem writePend_ops (v : Events) : (writePend v s).ops = s.ops := rfl
@[simp] theorem writePend_stims (v : Events) : (writePend v s).stims = s.stims := rfl
@[simp] theorem writePend_trace (v : Events) : (writePend v s).trace = s.trace := rfl
@[simp] theorem writePend_free (v : Events) : (writePend v s).free = s.free := rfl
@[simp] theorem writePend_started (v : Events) : (writePend v s).started = s.started := rfl

@[simp] theorem writePhase_time (v : Phase) : (writePhase v s).time = s.time := rfl
@[simp] theorem writePhase_pulseStart (v : Phase) : (writePhase v s).pulseStart = s.pulseStart := rfl
@[simp] theorem writePhase_wdCnt (v : Phase) : (writePhase v s).wdCnt = s.wdCnt := rfl
@[simp] theorem writePhase_targetState (v : Phase) : (writePhase v s).targetState = s.targetState := rfl
@[simp] theorem writePhase_targetPower (v : Phase) : (writePhase v s).targetPower = s.targetPower := rfl
@[simp] theorem writePhase_motorState (v : Phase) : (writePhase v s).motorState = s.motorState := rfl
@[simp] theorem writePhase_duty (v : Phase) : (writePhase v s).duty = s.duty := rfl
@[simp] theorem writePhase_dutySh (v : Phase) : (writePhase v s).dutySh = s.dutySh := rfl
@[simp] theorem writePhase_pwmCnt (v : Phase) : (writePhase v s).pwmCnt = s.pwmCnt := rfl
@[simp] theorem writePhase_sw (v : Phase) : (writePhase v s).sw = s.sw := rfl
@[simp] theorem writePhase_rcPrev (v : Phase) : (writePhase v s).rcPrev = s.rcPrev := rfl
@[simp] theorem writePhase_pend (v : Phase) : (writePhase v s).pend = s.pend := rfl
@[simp] theorem writePhase_phase (v : Phase) : (writePhase v s).phase = v := rfl
@[simp] theorem writePhase_tgt (v : Phase) : (writePhase v s).tgt = s.tgt := rfl
@[simp] theorem writePhase_seqCnt (v : Phase) : (writePhase v s).seqCnt = s.seqCnt := rfl
@[simp] theorem writePhase_rcIn (v : Phase) : (writePhase v s).rcIn = s.rcIn := rfl
@[simp] theorem writePhase_pins (v : Phase) : (writePhase v s).pins = s.pins := rfl
@[simp] theorem writePhase_ev (v : Phase) : (writePhase v s).ev = s.ev := rfl
@[simp] theorem writePhase_cfg (v : Phase) : (writePhase v s).cfg = s.cfg := rfl
@[simp] theorem writePhase_ops (v : Phase) : (writePhase v s).ops = s.ops := rfl
@[simp] theorem writePhase_stims (v : Phase) : (writePhase v s).stims = s.stims := rfl
@[simp] theorem writePhase_trace (v : Phase) : (writePhase v s).trace = s.trace := rfl
@[simp] theorem writePhase_free (v : Phase) : (writePhase v s).free = s.free := rfl
@[simp] theorem writePhase_started (v : Phase) : (writePhase v s).started = s.started := rfl

@[simp] theorem writeTgt_time (v : MotorState) : (writeTgt v s).time = s.time := rfl
@[simp] theorem writeTgt_pulseStart (v : MotorState) : (writeTgt v s).pulseStart = s.pulseStart := rfl
@[simp] theorem writeTgt_wdCnt (v : MotorState) : (writeTgt v s).wdCnt = s.wdCnt := rfl
@[simp] theorem writeTgt_targetState (v : MotorState) : (writeTgt v s).targetState = s.targetState := rfl
@[simp] theorem writeTgt_targetPower (v : MotorState) : (writeTgt v s).targetPower = s.targetPower := rfl
@[simp] theorem writeTgt_motorState (v : MotorState) : (writeTgt v s).motorState = s.motorState := rfl
@[simp] theorem writeTgt_duty (v : MotorState) : (writeTgt v s).duty = s.duty := rfl
@[simp] theorem writeTgt_dutySh (v : MotorState) : (writeTgt v s).dutySh = s.dutySh := rfl
@[simp] theorem writeTgt_pwmCnt (v : MotorState) : (writeTgt v s).pwmCnt = s.pwmCnt := rfl
@[simp] theorem writeTgt_sw (v : MotorState) : (writeTgt v s).sw = s.sw := rfl
@[simp] theorem writeTgt_rcPrev (v : MotorState) : (writeTgt v s).rcPrev = s.rcPrev := rfl
@[simp] theorem writeTgt_pend (v : MotorState) : (writeTgt v s).pend = s.pend := rfl
@[simp] theorem writeTgt_phase (v : MotorState) : (writeTgt v s).phase = s.phase := rfl
@[simp] theorem writeTgt_tgt (v : MotorState) : (writeTgt v s).tgt = v := rfl
@[simp] theorem writeTgt_seqCnt (v : MotorState) : (writeTgt v s).seqCnt = s.seqCnt := rfl
@[simp] theorem writeTgt_rcIn (v : MotorState) : (writeTgt v s).rcIn = s.rcIn := rfl
@[simp] theorem writeTgt_pins (v : MotorState) : (writeTgt v s).pins = s.pins := rfl
@[simp] theorem writeTgt_ev (v : MotorState) : (writeTgt v s).ev = s.ev := rfl
@[simp] theorem writeTgt_cfg (v : MotorState) : (writeTgt v s).cfg = s.cfg := rfl
@[simp] theorem writeTgt_ops (v : MotorState) : (writeTgt v s).ops = s.ops := rfl
@[simp] theorem writeTgt_stims (v : MotorState) : (writeTgt v s).stims = s.stims := rfl
@[simp] theorem writeTgt_trace (v : MotorState) : (writeTgt v s).trace = s.trace := rfl
@[simp] theorem writeTgt_free (v : MotorState) : (writeTgt v s).free = s.free := rfl
@[simp] theorem writeTgt_started (v : MotorState) : (writeTgt v s).started = s.started := rfl

@[simp] theorem writeSeqCnt_time (v : Nat) : (writeSeqCnt v s).time = s.time := rfl
@[simp] theorem writeSeqCnt_pulseStart (v : Nat) : (writeSeqCnt v s).pulseStart = s.pulseStart := rfl
@[simp] theorem writeSeqCnt_wdCnt (v : Nat) : (writeSeqCnt v s).wdCnt = s.wdCnt := rfl
@[simp] theorem writeSeqCnt_targetState (v : Nat) : (writeSeqCnt v s).targetState = s.targetState := rfl
@[simp] theorem writeSeqCnt_targetPower (v : Nat) : (writeSeqCnt v s).targetPower = s.targetPower := rfl
@[simp] theorem writeSeqCnt_motorState (v : Nat) : (writeSeqCnt v s).motorState = s.motorState := rfl
@[simp] theorem writeSeqCnt_duty (v : Nat) : (writeSeqCnt v s).duty = s.duty := rfl
@[simp] theorem writeSeqCnt_dutySh (v : Nat) : (writeSeqCnt v s).dutySh = s.dutySh := rfl
@[simp] theorem writeSeqCnt_pwmCnt (v : Nat) : (writeSeqCnt v s).pwmCnt = s.pwmCnt := rfl
@[simp] theorem writeSeqCnt_sw (v : Nat) : (writeSeqCnt v s).sw = s.sw := rfl
@[simp] theorem writeSeqCnt_rcPrev (v : Nat) : (writeSeqCnt v s).rcPrev = s.rcPrev := rfl
@[simp] theorem writeSeqCnt_pend (v : Nat) : (writeSeqCnt v s).pend = s.pend := rfl
@[simp] theorem writeSeqCnt_phase (v : Nat) : (writeSeqCnt v s).phase = s.phase := rfl
@[simp] theorem writeSeqCnt_tgt (v : Nat) : (writeSeqCnt v s).tgt = s.tgt := rfl
@[simp] theorem writeSeqCnt_seqCnt (v : Nat) : (writeSeqCnt v s).seqCnt = v := rfl
@[simp] theorem writeSeqCnt_rcIn (v : Nat) : (writeSeqCnt v s).rcIn = s.rcIn := rfl
@[simp] theorem writeSeqCnt_pins (v : Nat) : (writeSeqCnt v s).pins = s.pins := rfl
@[simp] theorem writeSeqCnt_ev (v : Nat) : (writeSeqCnt v s).ev = s.ev := rfl
@[simp] theorem writeSeqCnt_cfg (v : Nat) : (writeSeqCnt v s).cfg = s.cfg := rfl
@[simp] theorem writeSeqCnt_ops (v : Nat) : (writeSeqCnt v s).ops = s.ops := rfl
@[simp] theorem writeSeqCnt_stims (v : Nat) : (writeSeqCnt v s).stims = s.stims := rfl
@[simp] theorem writeSeqCnt_trace (v : Nat) : (writeSeqCnt v s).trace = s.trace := rfl
@[simp] theorem writeSeqCnt_free (v : Nat) : (writeSeqCnt v s).free = s.free := rfl
@[simp] theorem writeSeqCnt_started (v : Nat) : (writeSeqCnt v s).started = s.started := rfl

@[simp] theorem driveRc_time : (driveRc b s).time = s.time := rfl
@[simp] theorem driveRc_pulseStart : (driveRc b s).pulseStart = s.pulseStart := rfl
@[simp] theorem driveRc_wdCnt : (driveRc b s).wdCnt = s.wdCnt := rfl
@[simp] theorem driveRc_targetState : (driveRc b s).targetState = s.targetState := rfl
@[simp] theorem driveRc_targetPower : (driveRc b s).targetPower = s.targetPower := rfl
@[simp] theorem driveRc_motorState : (driveRc b s).motorState = s.motorState := rfl
@[simp] theorem driveRc_duty : (driveRc b s).duty = s.duty := rfl
@[simp] theorem driveRc_dutySh : (driveRc b s).dutySh = s.dutySh := rfl
@[simp] theorem driveRc_pwmCnt : (driveRc b s).pwmCnt = s.pwmCnt := rfl
@[simp] theorem driveRc_sw : (driveRc b s).sw = s.sw := rfl
@[simp] theorem driveRc_rcPrev : (driveRc b s).rcPrev = s.rcPrev := rfl
@[simp] theorem driveRc_pend : (driveRc b s).pend = s.pend := rfl
@[simp] theorem driveRc_phase : (driveRc b s).phase = s.phase := rfl
@[simp] theorem driveRc_tgt : (driveRc b s).tgt = s.tgt := rfl
@[simp] theorem driveRc_seqCnt : (driveRc b s).seqCnt = s.seqCnt := rfl
@[simp] theorem driveRc_rcIn : (driveRc b s).rcIn = b := rfl
@[simp] theorem driveRc_pins : (driveRc b s).pins = s.pins := rfl
@[simp] theorem driveRc_ev : (driveRc b s).ev = s.ev := rfl
@[simp] theorem driveRc_cfg : (driveRc b s).cfg = s.cfg := rfl
@[simp] theorem driveRc_ops : (driveRc b s).ops = s.ops := rfl
@[simp] theorem driveRc_stims : (driveRc b s).stims = s.stims := rfl
@[simp] theorem driveRc_trace : (driveRc b s).trace = s.trace := rfl
@[simp] theorem driveRc_free : (driveRc b s).free = s.free := rfl
@[simp] theorem driveRc_started : (driveRc b s).started = s.started := rfl

@[simp] theorem setPend_time : (setPend k s).time = s.time := rfl
@[simp] theorem setPend_pulseStart : (setPend k s).pulseStart = s.pulseStart := rfl
@[simp] theorem setPend_wdCnt : (setPend k s).wdCnt = s.wdCnt := rfl
@[simp] theorem setPend_targetState : (setPend k s).targetState = s.targetState := rfl
@[simp] theorem setPend_targetPower : (setPend k s).targetPower = s.targetPower := rfl
@[simp] theorem setPend_motorState : (setPend k s).motorState = s.motorState := rfl
@[simp] theorem setPend_duty : (setPend k s).duty = s.duty := rfl
@[simp] theorem setPend_dutySh : (setPend k s).dutySh = s.dutySh := rfl
@[simp] theorem setPend_pwmCnt : (setPend k s).pwmCnt = s.pwmCnt := rfl
@[simp] theorem setPend_sw : (setPend k s).sw = s.sw := rfl
@[simp] theorem setPend_rcPrev : (setPend k s).rcPrev = s.rcPrev := rfl
@[simp] theorem setPend_pend : (setPend k s).pend = s.pend.set k true := rfl
@[simp] theorem setPend_phase : (setPend k s).phase = s.phase := rfl
@[simp] theorem setPend_tgt : (setPend k s).tgt = s.tgt := rfl
@[simp] theorem setPend_seqCnt : (setPend k s).seqCnt = s.seqCnt := rfl
@[simp] theorem setPend_rcIn : (setPend k s).rcIn = s.rcIn := rfl
@[simp] theorem setPend_pins : (setPend k s).pins = s.pins := rfl
@[simp] theorem setPend_ev : (setPend k s).ev = s.ev := rfl
@[simp] theorem setPend_cfg : (setPend k s).cfg = s.cfg := rfl
@[simp] theorem setPend_ops : (setPend k s).ops = s.ops := rfl
@[simp] theorem setPend_stims : (setPend k s).stims = s.stims := rfl
@[simp] theorem setPend_trace : (setPend k s).trace = s.trace := rfl
@[simp] theorem setPend_free : (setPend k s).free = s.free := rfl
@[simp] theorem setPend_started : (setPend k s).started = s.started := rfl

@[simp] theorem clearPend_time : (clearPend k s).time = s.time := rfl
@[simp] theorem clearPend_pulseStart : (clearPend k s).pulseStart = s.pulseStart := rfl
@[simp] theorem clearPend_wdCnt : (clearPend k s).wdCnt = s.wdCnt := rfl
@[simp] theorem clearPend_targetState : (clearPend k s).targetState = s.targetState := rfl
@[simp] theorem clearPend_targetPower : (clearPend k s).targetPower = s.targetPower := rfl
@[simp] theorem clearPend_motorState : (clearPend k s).motorState = s.motorState := rfl
@[simp] theorem clearPend_duty : (clearPend k s).duty = s.duty := rfl
@[simp] theorem clearPend_dutySh : (clearPend k s).dutySh = s.dutySh := rfl
@[simp] theorem clearPend_pwmCnt : (clearPend k s).pwmCnt = s.pwmCnt := rfl
@[simp] theorem clearPend_sw : (clearPend k s).sw = s.sw := rfl
@[simp] theorem clearPend_rcPrev : (clearPend k s).rcPrev = s.rcPrev := rfl
@[simp] theorem clearPend_pend : (clearPend k s).pend = s.pend.set k false := rfl
@[simp] theorem clearPend_phase : (clearPend k s).phase = s.phase := rfl
@[simp] theorem clearPend_tgt : (clearPend k s).tgt = s.tgt := rfl
@[simp] theorem clearPend_seqCnt : (clearPend k s).seqCnt = s.seqCnt := rfl
@[simp] theorem clearPend_rcIn : (clearPend k s).rcIn = s.rcIn := rfl
@[simp] theorem clearPend_pins : (clearPend k s).pins = s.pins := rfl
@[simp] theorem clearPend_ev : (clearPend k s).ev = s.ev := rfl
@[simp] theorem clearPend_cfg : (clearPend k s).cfg = s.cfg := rfl
@[simp] theorem clearPend_ops : (clearPend k s).ops = s.ops := rfl
@[simp] theorem clearPend_stims : (clearPend k s).stims = s.stims := rfl
@[simp] theorem clearPend_trace : (clearPend k s).trace = s.trace := rfl
@[simp] theorem clearPend_free : (clearPend k s).free = s.free := rfl
@[simp] theorem clearPend_started : (clearPend k s).started = s.started := rfl

@[simp] theorem setEvent_time : (setEvent k b s).time = s.time := rfl
@[simp] theorem setEvent_pulseStart : (setEvent k b s).pulseStart = s.pulseStart := rfl
@[simp] theorem setEvent_wdCnt : (setEvent k b s).wdCnt = s.wdCnt := rfl
@[simp] theorem setEvent_targetState : (setEvent k b s).targetState = s.targetState := rfl
@[simp] theorem setEvent_targetPower : (setEvent k b s).targetPower = s.targetPower := rfl
@[simp] theorem setEvent_motorState : (setEvent k b s).motorState = s.motorState := rfl
@[simp] theorem setEvent_duty : (setEvent k b s).duty = s.duty := rfl
@[simp] theorem setEvent_dutySh : (setEvent k b s).dutySh = s.dutySh := rfl
@[simp] theorem setEvent_pwmCnt : (setEvent k b s).pwmCnt = s.pwmCnt := rfl
@[simp] theorem setEvent_sw : (setEvent k b s).sw = s.sw := rfl
@[simp] theorem setEvent_rcPrev : (setEvent k b s).rcPrev = s.rcPrev := rfl
@[simp] theorem setEvent_pend : (setEvent k b s).pend = s.pend := rfl
@[simp] theorem setEvent_phase : (setEvent k b s).phase = s.phase := rfl
@[simp] theorem setEvent_tgt : (setEvent k b s).tgt = s.tgt := rfl
@[simp] theorem setEvent_seqCnt : (setEvent k b s).seqCnt = s.seqCnt := rfl
@[simp] theorem setEvent_rcIn : (setEvent k b s).rcIn = s.rcIn := rfl
@[simp] theorem setEvent_pins : (setEvent k b s).pins = s.pins := rfl
@[simp] theorem setEvent_ev : (setEvent k b s).ev = s.ev.set k b := rfl
@[simp] theorem setEvent_cfg : (setEvent k b s).cfg = s.cfg := rfl
@[simp] theorem setEvent_ops : (setEvent k b s).ops = s.ops := rfl
@[simp] theorem setEvent_stims : (setEvent k b s).stims = s.stims := rfl
@[simp] theorem setEvent_trace : (setEvent k b s).trace = s.trace := rfl
@[simp] theorem setEvent_free : (setEvent k b s).free = s.free := rfl
@[simp] theorem setEvent_started : (setEvent k b s).started = s.started := rfl

@[simp] theorem switchOn_time : (switchOn x s).time = s.time := rfl
@[simp] theorem switchOn_pulseStart : (switchOn x s).pulseStart = s.pulseStart := rfl
@[simp] theorem switchOn_wdCnt : (switchOn x s).wdCnt = s.wdCnt := rfl
@[simp] theorem switchOn_targetState : (switchOn x s).targetState = s.targetState := rfl
@[simp] theorem switchOn_targetPower : (switchOn x s).targetPower = s.targetPower := rfl
@[simp] theorem switchOn_motorState : (switchOn x s).motorState = s.motorState := rfl
@[simp] theorem switchOn_duty : (switchOn x s).duty = s.duty := rfl
@[simp] theorem switchOn_dutySh : (switchOn x s).dutySh = s.dutySh := rfl
@[simp] theorem switchOn_pwmCnt : (switchOn x s).pwmCnt = s.pwmCnt := rfl
@[simp] theorem switchOn_sw : (switchOn x s).sw = s.sw.set x true := rfl
@[simp] theorem switchOn_rcPrev : (switchOn x s).rcPrev = s.rcPrev := rfl
@[simp] theorem switchOn_pend : (switchOn x s).pend = s.pend := rfl
@[simp] theorem switchOn_phase : (switchOn x s).phase = s.phase := rfl
@[simp] theorem switchOn_tgt : (switchOn x s).tgt = s.tgt := rfl
@[simp] theorem switchOn_seqCnt : (switchOn x s).seqCnt = s.seqCnt := rfl
@[simp] theorem switchOn_rcIn : (switchOn x s).rcIn = s.rcIn := rfl
@[simp] theorem switchOn_pins : (switchOn x s).pins = s.pins := rfl
@[simp] theorem switchOn_ev : (switchOn x s).ev = s.ev := rfl
@[simp] theorem switchOn_cfg : (switchOn x s).cfg = s.cfg := rfl
@[simp] theorem switchOn_ops : (switchOn x s).ops = s.ops := rfl
@[simp] theorem switchOn_stims : (switchOn x s).stims = s.stims := rfl
@[simp] theorem switchOn_trace : (switchOn x s).trace = ⟨s.time, recordWord x.onWord, none⟩ :: s.trace := rfl
@[simp] theorem switchOn_free : (switchOn x s).free = s.free := rfl
@[simp] theorem switchOn_started : (switchOn x s).started = s.started := rfl

@[simp] theorem switchOff_time : (switchOff x s).time = s.time := rfl
@[simp] theorem switchOff_pulseStart : (switchOff x s).pulseStart = s.pulseStart := rfl
@[simp] theorem switchOff_wdCnt : (switchOff x s).wdCnt = s.wdCnt := rfl
@[simp] theorem switchOff_targetState : (switchOff x s).targetState = s.targetState := rfl
@[simp] theorem switchOff_targetPower : (switchOff x s).targetPower = s.targetPower := rfl
@[simp] theorem switchOff_motorState : (switchOff x s).motorState = s.motorState := rfl
@[simp] theorem switchOff_duty : (switchOff x s).duty = s.duty := rfl
@[simp] theorem switchOff_dutySh : (switchOff x s).dutySh = s.dutySh := rfl
@[simp] theorem switchOff_pwmCnt : (switchOff x s).pwmCnt = s.pwmCnt := rfl
@[simp] theorem switchOff_sw : (switchOff x s).sw = s.sw.set x false := rfl
@[simp] theorem switchOff_rcPrev : (switchOff x s).rcPrev = s.rcPrev := rfl
@[simp] theorem switchOff_pend : (switchOff x s).pend = s.pend := rfl
@[simp] theorem switchOff_phase : (switchOff x s).phase = s.phase := rfl
@[simp] theorem switchOff_tgt : (switchOff x s).tgt = s.tgt := rfl
@[simp] theorem switchOff_seqCnt : (switchOff x s).seqCnt = s.seqCnt := rfl
@[simp] theorem switchOff_rcIn : (switchOff x s).rcIn = s.rcIn := rfl
@[simp] theorem switchOff_pins : (switchOff x s).pins = s.pins := rfl
@[simp] theorem switchOff_ev : (switchOff x s).ev = s.ev := rfl
@[simp] theorem switchOff_cfg : (switchOff x s).cfg = s.cfg := rfl
@[simp] theorem switchOff_ops : (switchOff x s).ops = s.ops := rfl
@[simp] theorem switchOff_stims : (switchOff x s).stims = s.stims := rfl
@[simp] theorem switchOff_trace : (switchOff x s).trace = ⟨s.time, recordWord x.offWord, none⟩ :: s.trace := rfl
@[simp] theorem switchOff_free : (switchOff x s).free = s.free := rfl
@[simp] theorem switchOff_started : (switchOff x s).started = s.started := rfl

@[simp] theorem beginPeriod_time : (beginPeriod s).time = s.time := rfl
@[simp] theorem beginPeriod_pulseStart : (beginPeriod s).pulseStart = s.pulseStart := rfl
@[simp] theorem beginPeriod_wdCnt : (beginPeriod s).wdCnt = s.wdCnt := rfl
@[simp] theorem beginPeriod_targetState : (beginPeriod s).targetState = s.targetState := rfl
@[simp] theorem beginPeriod_targetPower : (beginPeriod s).targetPower = s.targetPower := rfl
@[simp] theorem beginPeriod_motorState : (beginPeriod s).motorState = s.motorState := rfl
@[simp] theorem beginPeriod_duty : (beginPeriod s).duty = s.duty := rfl
@[simp] theorem beginPeriod_dutySh : (beginPeriod s).dutySh = s.dutySh := rfl
@[simp] theorem beginPeriod_pwmCnt : (beginPeriod s).pwmCnt = s.pwmCnt := rfl
@[simp] theorem beginPeriod_sw : (beginPeriod s).sw = s.sw := rfl
@[simp] theorem beginPeriod_rcPrev : (beginPeriod s).rcPrev = s.rcPrev := rfl
@[simp] theorem beginPeriod_pend : (beginPeriod s).pend = s.pend := rfl
@[simp] theorem beginPeriod_phase : (beginPeriod s).phase = s.phase := rfl
@[simp] theorem beginPeriod_tgt : (beginPeriod s).tgt = s.tgt := rfl
@[simp] theorem beginPeriod_seqCnt : (beginPeriod s).seqCnt = s.seqCnt := rfl
@[simp] theorem beginPeriod_rcIn : (beginPeriod s).rcIn = s.rcIn := rfl
@[simp] theorem beginPeriod_pins : (beginPeriod s).pins = s.sw := rfl
@[simp] theorem beginPeriod_ev : (beginPeriod s).ev = s.ev := rfl
@[simp] theorem beginPeriod_cfg : (beginPeriod s).cfg = s.cfg := rfl
@[simp] theorem beginPeriod_ops : (beginPeriod s).ops = s.ops := rfl
@[simp] theorem beginPeriod_stims : (beginPeriod s).stims = s.stims := rfl
@[simp] theorem beginPeriod_trace : (beginPeriod s).trace = s.trace := rfl
@[simp] theorem beginPeriod_free : (beginPeriod s).free = s.free + 1 := rfl
@[simp] theorem beginPeriod_started : (beginPeriod s).started = s.started := rfl

@[simp] theorem endCycle_time : (endCycle s).time = s.time := rfl
@[simp] theorem endCycle_pulseStart : (endCycle s).pulseStart = s.pulseStart := rfl
@[simp] theorem endCycle_wdCnt : (endCycle s).wdCnt = s.wdCnt := rfl
@[simp] theorem endCycle_targetState : (endCycle s).targetState = s.targetState := rfl
@[simp] theorem endCycle_targetPower : (endCycle s).targetPower = s.targetPower := rfl
@[simp] theorem endCycle_motorState : (endCycle s).motorState = s.motorState := rfl
@[simp] theorem endCycle_duty : (endCycle s).duty = s.duty := rfl
@[simp] theorem endCycle_dutySh : (endCycle s).dutySh = s.dutySh := rfl
@[simp] theorem endCycle_pwmCnt : (endCycle s).pwmCnt = s.pwmCnt := rfl
@[simp] theorem endCycle_sw : (endCycle s).sw = s.sw := rfl
@[simp] theorem endCycle_rcPrev : (endCycle s).rcPrev = s.rcPrev := rfl
@[simp] theorem endCycle_pend : (endCycle s).pend = s.pend := rfl
@[simp] theorem endCycle_phase : (endCycle s).phase = s.phase := rfl
@[simp] theorem endCycle_tgt : (endCycle s).tgt = s.tgt := rfl
@[simp] theorem endCycle_seqCnt : (endCycle s).seqCnt = s.seqCnt := rfl
@[simp] theorem endCycle_rcIn : (endCycle s).rcIn = s.rcIn := rfl
@[simp] theorem endCycle_pins : (endCycle s).pins = s.pins := rfl
@[simp] theorem endCycle_ev : (endCycle s).ev = Events.none := rfl
@[simp] theorem endCycle_cfg : (endCycle s).cfg = s.cfg := rfl
@[simp] theorem endCycle_ops : (endCycle s).ops = s.ops := rfl
@[simp] theorem endCycle_stims : (endCycle s).stims = s.stims := rfl
@[simp] theorem endCycle_trace : (endCycle s).trace = s.trace := rfl
@[simp] theorem endCycle_free : (endCycle s).free = s.free := rfl
@[simp] theorem endCycle_started : (endCycle s).started = s.started := rfl

@[simp] theorem takeFree_time : (takeFree s).time = s.time := rfl
@[simp] theorem takeFree_pulseStart : (takeFree s).pulseStart = s.pulseStart := rfl
@[simp] theorem takeFree_wdCnt : (takeFree s).wdCnt = s.wdCnt := rfl
@[simp] theorem takeFree_targetState : (takeFree s).targetState = s.targetState := rfl
@[simp] theorem takeFree_targetPower : (takeFree s).targetPower = s.targetPower := rfl
@[simp] theorem takeFree_motorState : (takeFree s).motorState = s.motorState := rfl
@[simp] theorem takeFree_duty : (takeFree s).duty = s.duty := rfl
@[simp] theorem takeFree_dutySh : (takeFree s).dutySh = s.dutySh := rfl
@[simp] theorem takeFree_pwmCnt : (takeFree s).pwmCnt = s.pwmCnt := rfl
@[simp] theorem takeFree_sw : (takeFree s).sw = s.sw := rfl
@[simp] theorem takeFree_rcPrev : (takeFree s).rcPrev = s.rcPrev := rfl
@[simp] theorem takeFree_pend : (takeFree s).pend = s.pend := rfl
@[simp] theorem takeFree_phase : (takeFree s).phase = s.phase := rfl
@[simp] theorem takeFree_tgt : (takeFree s).tgt = s.tgt := rfl
@[simp] theorem takeFree_seqCnt : (takeFree s).seqCnt = s.seqCnt := rfl
@[simp] theorem takeFree_rcIn : (takeFree s).rcIn = s.rcIn := rfl
@[simp] theorem takeFree_pins : (takeFree s).pins = s.pins := rfl
@[simp] theorem takeFree_ev : (takeFree s).ev = s.ev := rfl
@[simp] theorem takeFree_cfg : (takeFree s).cfg = s.cfg := rfl
@[simp] theorem takeFree_ops : (takeFree s).ops = s.ops := rfl
@[simp] theorem takeFree_stims : (takeFree s).stims = s.stims := rfl
@[simp] theorem takeFree_trace : (takeFree s).trace = s.trace := rfl
@[simp] theorem takeFree_free : (takeFree s).free = s.free + 1 := rfl
@[simp] theorem takeFree_started : (takeFree s).started = s.started := rfl

/-! ### Flags -/

/-- Reading back the flag that was set. -/
@[simp] theorem Events.get_set_same (e : Events) : (e.set k b).get k = b := by cases k <;> rfl

/-- Setting one source's flag leaves the others'. -/
theorem Events.get_set_other (e : Events) (j : EventSource) (h : j ≠ k) : (e.set k b).get j = e.get j := by
  cases k <;> cases j <;> first | rfl | exact absurd rfl h

/-- The flags are determined by their four values. -/
theorem Events.ext_get (e f : Events) (h : ∀ j, e.get j = f.get j) : e = f := by
  cases e; cases f
  have h1 := h .edge; have h2 := h .tick; have h3 := h .start; have h4 := h .pwmMatch
  simp_all [Events.get]

/-! ### Switches -/

/-- Reading back the switch that was set (R140, R141). -/
@[simp] theorem Switches.get_set_same (w : Switches) : (w.set x b).get x = b := by cases x <;> rfl

/-- Setting one switch leaves the others (R140, R141). -/
theorem Switches.get_set_other (w : Switches) (y : SwitchId) (h : y ≠ x) : (w.set x b).get y = w.get y := by
  cases x <;> cases y <;> first | rfl | exact absurd rfl h

end Sys2Proof.Machine
end

