-- ==== Sys2Proof/Laws/Ops.lean ====
section
/-! SUPPORT. For each shared operation, one lemma that says once what it can do: what follows if it answers a next state, or
what each field is afterwards. -/

namespace Sys2Proof.Machine

variable (s t : State)

/-! ### Sequencing and faults -/

@[simp] theorem andThen_next (k : State → Result) : andThen (.next s) k = k s := rfl

@[simp] theorem andThen_fault (f : Fault) (k : State → Result) : andThen (.fault f) k = .fault f := rfl

@[simp] theorem andThen_refused (q : Refusal) (k : State → Result) : andThen (.refused q) k = .refused q := rfl

/-- A sequence answers a next state exactly when its first part does and its second part does from there. -/
theorem andThen_eq_next {r : Result} {k : State → Result} {t : State} :
    andThen r k = .next t ↔ ∃ u, r = .next u ∧ k u = .next t := by
  cases r <;> simp

/-- Raising a fault never answers a next state (R258). -/
@[simp] theorem raise_ne_next (r : FaultReason) : raise r s ≠ .next t := by simp [raise]

/-! ### Free values -/

/-- What SEQ_CNT can be counted down to: one less, or from 0 a free value of its width (R196, log 9). -/
theorem seqCntDown_cases :
    (0 < s.seqCnt ∧ seqCntDown s = writeSeqCnt (s.seqCnt - 1) s) ∨
    (s.seqCnt = 0 ∧
      seqCntDown s = writeSeqCnt (Config.seqCntBelowZero s.free % 2 ^ s.cfg.seqW) (takeFree s)) := by
  unfold seqCntDown
  split
  · exact .inr ⟨‹_›, rfl⟩
  · exact .inl ⟨by omega, rfl⟩

/-- What PWM_CNT can be counted up to: one more, or past its width a free value of that width (R125, log 10). -/
theorem pwmCntUp_cases :
    (s.pwmCnt + 1 < 2 ^ 8 ∧ pwmCntUp s = writePwmCnt (s.pwmCnt + 1) s) ∨
    (2 ^ 8 ≤ s.pwmCnt + 1 ∧
      pwmCntUp s = writePwmCnt (Config.pwmCntPastWidth s.free).toNat (takeFree s)) := by
  unfold pwmCntUp
  split
  · exact .inl ⟨‹_›, rfl⟩
  · exact .inr ⟨by omega, rfl⟩

/-! ### Transitions -/

/-- What a GO can do when it answers a next state: nothing in its target state, else the start of a transition; it is idle
either way (R191). -/
theorem go_cases {g : GoTarget} {s t : State} (h : go g s = .next t) :
    s.phase = .idle ∧
      ((s.motorState = g.state ∧ t = s) ∨ (s.motorState ≠ g.state ∧ t = startTransition g s)) := by
  unfold go State.busy at h
  split at h
  · exact absurd h (raise_ne_next _ _ _)
  · refine ⟨by simp_all, ?_⟩
    split at h
    · exact .inl ⟨‹_›, by injection h with h; exact h.symm⟩
    · exact .inr ⟨‹_›, by injection h with h; exact h.symm⟩

/-- What the sequencer can do at the end of a delay when it answers a next state (R197 to R200). -/
theorem seqAct_cases {s t : State} (h : seqAct s = .next t) :
    (s.phase = .dead1 ∧ s.tgt = .fwd ∧ t = endFirstDead .fl s) ∨
    (s.phase = .dead1 ∧ s.tgt = .bwd ∧ t = endFirstDead .bl s) ∨
    (s.phase = .dead2 ∧ s.tgt = .fwd ∧ t = commitDrive .fh s) ∨
    (s.phase = .dead2 ∧ s.tgt = .bwd ∧ t = commitDrive .bh s) ∨
    (s.phase = .dead1 ∧ s.tgt = .brake ∧ t = commitBrake s) ∨
    (s.phase = .settle ∧ s.tgt = .brake ∧ t = endSettle s) := by
  unfold seqAct at h
  split at h
  case h_7 => exact absurd h (raise_ne_next _ _ _)
  all_goals
    injection h with h
    subst h
    simp_all

/-- What SEQ_STEP can do when it answers a next state: only count, or act at 0 (R196). -/
theorem seqStep_cases {s t : State} (h : seqStep s = .next t) :
    ((seqCntDown (emit .seqStep none s)).seqCnt ≠ 0 ∧ t = seqCntDown (emit .seqStep none s)) ∨
    ((seqCntDown (emit .seqStep none s)).seqCnt = 0 ∧ seqAct (seqCntDown (emit .seqStep none s)) = .next t) := by
  unfold seqStep seqCheck at h
  split at h
  · exact .inl ⟨‹_›, by injection h with h; exact h.symm⟩
  · exact .inr ⟨by simp_all, h⟩

/-- What the arbiter can do when it answers a next state (R240). -/
theorem arbitrate_cases {s t : State} (h : arbitrate s = .next t) :
    s.targetState ≠ .uninit ∧
      ((s.targetState = s.motorState ∧ t = writeDuty s.targetPower (emit .arb none s)) ∨
        (s.targetState ≠ s.motorState ∧
          go (arbGoal s.targetState s.motorState)
            (resetDutyFor (arbGoal s.targetState s.motorState) (emit .arb none s)) = .next t)) := by
  by_cases hu : s.targetState = .uninit
  · simp [arbitrate, arbDecide, hu] at h
  · refine ⟨hu, ?_⟩
    by_cases he : s.targetState = s.motorState
    · have hm : s.motorState ≠ .uninit := he ▸ hu
      simp only [arbitrate, arbDecide, emit_targetState, emit_motorState, emit_targetPower, he, hm, ne_eq, not_true_eq_false,
        if_false] at h
      injection h with h
      exact .inl ⟨he, h.symm⟩
    · simp only [arbitrate, arbDecide, emit_targetState, emit_motorState, hu, he, ne_eq, not_false_eq_true, if_true, if_false] at h
      exact .inr ⟨he, h⟩

/-! ### Services -/

/-- One test of SERVICE: the service runs exactly when its flag is set (R255). -/
theorem serviceIf_cases (k : EventSource) (f : State → State) :
    (s.pend.get k = true ∧ serviceIf k f s = f s) ∨ (s.pend.get k = false ∧ serviceIf k f s = s) := by
  unfold serviceIf
  cases h : s.pend.get k <;> simp

/-- What LATCH does for one source: nothing without an event; with one, the flag is set, and an occurrence that finds it
set is recorded as lost (R126, R252). -/
theorem latchSource_cases (k : EventSource) :
    (s.ev.get k = false ∧ latchSource k s = s) ∨
    (s.ev.get k = true ∧ s.pend.get k = false ∧ latchSource k s = setPend k s) ∨
    (s.ev.get k = true ∧ s.pend.get k = true ∧ latchSource k s = setPend k (emit k.coalesced none s)) := by
  unfold latchSource
  cases h : s.ev.get k <;> cases h' : s.pend.get k <;> simp

/-- What TICK decides: the force at 0 and not Braking, one count down above 0, nothing at 0 and Braking (R180). -/
theorem watchdog_cases :
    (s.wdCnt = 0 ∧ s.motorState ≠ .brake ∧ watchdog s = emit .condWdForce none (writeTargetState .brake s)) ∨
    (0 < s.wdCnt ∧ watchdog s = writeWdCnt (s.wdCnt - 1) s) ∨
    (s.wdCnt = 0 ∧ s.motorState = .brake ∧ watchdog s = s) := by
  unfold watchdog
  split
  · exact .inl ⟨by simp_all, by simp_all, rfl⟩
  · split
    · exact .inr (.inl ⟨‹_›, rfl⟩)
    · exact .inr (.inr ⟨by omega, by simp_all, rfl⟩)

/-- What EDGE_FALL does with a width: a discard outside the band, else both targets written (R154). -/
theorem decodeWidth_cases (e : Nat) :
    (widthValid s.cfg e = true ∧
      decodeWidth e s = writeTargetPower (decodeValid s.cfg e).2 (writeTargetState (decodeValid s.cfg e).1 s)) ∨
    (widthValid s.cfg e = false ∧ decodeWidth e s = emit .condDiscard (some e) s) := by
  unfold decodeWidth
  cases h : widthValid s.cfg e <;> simp

/-- What a valid width decodes to: Forward, Backward or Braking with power 0 (R156 to R158). -/
theorem decodeValid_cases (c : Config.Params) (e : Nat) :
    (c.pwMid + c.pwDz < e ∧ decodeValid c e = (.fwd, forwardPower c e)) ∨
    (e ≤ c.pwMid + c.pwDz ∧ e + c.pwDz < c.pwMid ∧ decodeValid c e = (.bwd, backwardPower c e)) ∨
    (e ≤ c.pwMid + c.pwDz ∧ c.pwMid ≤ e + c.pwDz ∧ decodeValid c e = (.brake, 0)) := by
  unfold decodeValid
  split
  · exact .inl ⟨‹_›, rfl⟩
  · split
    · exact .inr (.inl ⟨by omega, ‹_›, rfl⟩)
    · exact .inr (.inr ⟨by omega, by omega, rfl⟩)

/-- What PWM_START decides: the high side of the direction being driven, or nothing (R220). -/
theorem highSideOn_cases :
    (0 < s.dutySh ∧ s.motorState = .fwd ∧ highSideOn s = switchOn .fh s) ∨
    (0 < s.dutySh ∧ s.motorState = .bwd ∧ highSideOn s = switchOn .bh s) ∨
    ((s.dutySh = 0 ∨ s.motorState = .brake ∨ s.motorState = .uninit) ∧ highSideOn s = s) := by
  unfold highSideOn
  by_cases h : 0 < s.dutySh
  · cases hm : s.motorState <;> simp [h]
  · exact .inr (.inr ⟨.inl (by omega), by simp [h]⟩)

/-- What PWM_MATCH decides: both high sides off, or nothing (R222). -/
theorem highSidesOff_cases :
    (s.dutySh < s.cfg.dutyMax ∧ s.motorState ≠ .brake ∧ highSidesOff s = switchOff .bh (switchOff .fh s)) ∨
    ((s.cfg.dutyMax ≤ s.dutySh ∨ s.motorState = .brake) ∧ highSidesOff s = s) := by
  unfold highSidesOff
  split
  · exact .inl ⟨by simp_all, by simp_all, rfl⟩
  · refine .inr ⟨?_, rfl⟩
    by_cases h : s.motorState = .brake
    · exact .inr h
    · exact .inl (by simp_all)

/-- What the counting half of PWM_ADV does: wrap, or count up (R125). -/
theorem countPwm_cases :
    (s.pwmCnt = s.cfg.pwmPeriod - 1 ∧
      countPwm s = setEvent .start true (writeDutySh s.duty (writePwmCnt 0 s))) ∨
    (s.pwmCnt ≠ s.cfg.pwmPeriod - 1 ∧ countPwm s = setEvent .start false (pwmCntUp s)) := by
  unfold countPwm
  split
  · exact .inl ⟨‹_›, rfl⟩
  · exact .inr ⟨‹_›, rfl⟩

/-- What the edge service does: the rising or the falling operation on the state with PEND.EDGE cleared (R150). -/
theorem edgeService_cases :
    (s.rcPrev = true ∧ edgeService s = edgeRise (clearPend .edge s)) ∨
    (s.rcPrev = false ∧ edgeService s = edgeFall (clearPend .edge s)) := by
  unfold edgeService
  cases h : s.rcPrev <;> simp

/-- What a GO does, faults included: a fault while busy, nothing in its target state, else the start of a transition
(R191). -/
theorem go_outcomes (g : GoTarget) :
    (s.phase ≠ .idle ∧ go g s = raise .goBusy s) ∨
    (s.phase = .idle ∧ s.motorState = g.state ∧ go g s = .next s) ∨
    (s.phase = .idle ∧ s.motorState ≠ g.state ∧ go g s = .next (startTransition g s)) := by
  unfold go State.busy
  by_cases hp : s.phase = .idle
  · by_cases hm : s.motorState = g.state
    · exact .inr (.inl ⟨hp, hm, by simp [hp, hm]⟩)
    · exact .inr (.inr ⟨hp, hm, by simp [hp, hm]⟩)
  · exact .inl ⟨hp, by simp [hp]⟩

/-! ### The cycle -/

/-- What a cycle does when it answers a next state: the sequencer if it begins busy, then the services and the arbiter if it
is idle, then the end (R120). -/
theorem runCycle_cases {s t : State} (h : runCycle s = .next t) :
    ∃ u v, cycleSeq (cycleFront s) = .next u ∧ cycleIdle u = .next v ∧ t = endCycle v := by
  unfold runCycle at h
  obtain ⟨v, hv, ht⟩ := andThen_eq_next.mp h
  obtain ⟨u, hu, hv⟩ := andThen_eq_next.mp hv
  exact ⟨u, v, hu, hv, by injection ht with ht; exact ht.symm⟩

/-- Running no cycle changes nothing (R90). -/
@[simp] theorem runCycles_zero : runCycles 0 s = .next s := rfl

/-- Running one more cycle is one cycle and then the rest (R90). -/
theorem runCycles_succ (n : Nat) : runCycles (n + 1) s = andThen (runCycle s) (runCycles n) := by
  cases h : runCycle s <;> simp [runCycles, h]

/-! ### The step -/

/-- A step that passes the two checks performs what it fetches, where that may be performed (R12, R91, R46). -/
theorem step_of_fetch {s s' : State} {i : Instr} (hc : s.cfg.wf = true) (hs : stimsOk s.stims = true)
    (hf : fetch s = .instr i s') (hm : mayPerform i s' = true) : step s = exec i s' := by
  simp [step, hc, hs, hf, hm]

/-- What a step does when it answers a next state: the configuration and the stimulus program are well formed, and the
fetched instruction is performed (R12, R91, R46). -/
theorem step_cases {s t : State} (h : step s = .next t) :
    s.cfg.wf = true ∧ stimsOk s.stims = true ∧
      ∃ i s', fetch s = .instr i s' ∧ mayPerform i s' = true ∧ exec i s' = .next t := by
  unfold step at h
  split at h
  · exact absurd h (by simp)
  · split at h
    · exact absurd h (by simp)
    · refine ⟨by simp_all, by simp_all, ?_⟩
      split at h
      · split at h
        · exact ⟨_, _, ‹_›, ‹_›, h⟩
        · exact absurd h (by simp)
      · split at h
        · exact absurd h (raise_ne_next _ _ _)
        · exact absurd h (by simp)
      · exact absurd h (by simp)

end Sys2Proof.Machine
end

