-- ==== Sys2Proof/Laws/PerInstr.lean ====
section
/-! SUPPORT. Statements for all instructions, made per instruction: one lemma per constructor of Instr. -/

namespace Sys2Proof.Laws

/-- A stimulus instruction has a stimulus word and every other instruction an operation word that is not reserved (R80,
R88): the encoder never leaves the stream an instruction belongs to. -/
def EncodesInItsStream.Statement (i : Instr) : Prop :=
  match Machine.stimWordOf i with
  | some w => encode i = .stim w ∧ (i = .stimReset ∨ ∃ level count, i = .stimRun level count)
  | none => ∃ w, encode i = .op w ∧ decodeOp w = .ok i

theorem EncodesInItsStream.swOffFh : EncodesInItsStream.Statement .swOffFh := ⟨_, rfl, rfl⟩

theorem EncodesInItsStream.swOffFl : EncodesInItsStream.Statement .swOffFl := ⟨_, rfl, rfl⟩

theorem EncodesInItsStream.swOffBh : EncodesInItsStream.Statement .swOffBh := ⟨_, rfl, rfl⟩

theorem EncodesInItsStream.swOffBl : EncodesInItsStream.Statement .swOffBl := ⟨_, rfl, rfl⟩

theorem EncodesInItsStream.swOnFh : EncodesInItsStream.Statement .swOnFh := ⟨_, rfl, rfl⟩

theorem EncodesInItsStream.swOnFl : EncodesInItsStream.Statement .swOnFl := ⟨_, rfl, rfl⟩

theorem EncodesInItsStream.swOnBh : EncodesInItsStream.Statement .swOnBh := ⟨_, rfl, rfl⟩

theorem EncodesInItsStream.swOnBl : EncodesInItsStream.Statement .swOnBl := ⟨_, rfl, rfl⟩

theorem EncodesInItsStream.edgeRise : EncodesInItsStream.Statement .edgeRise := ⟨_, rfl, rfl⟩

theorem EncodesInItsStream.edgeFall : EncodesInItsStream.Statement .edgeFall := ⟨_, rfl, rfl⟩

theorem EncodesInItsStream.tick : EncodesInItsStream.Statement .tick := ⟨_, rfl, rfl⟩

theorem EncodesInItsStream.pwmStart : EncodesInItsStream.Statement .pwmStart := ⟨_, rfl, rfl⟩

theorem EncodesInItsStream.pwmMatch : EncodesInItsStream.Statement .pwmMatch := ⟨_, rfl, rfl⟩

theorem EncodesInItsStream.arb : EncodesInItsStream.Statement .arb := ⟨_, rfl, rfl⟩

theorem EncodesInItsStream.goFwd : EncodesInItsStream.Statement .goFwd := ⟨_, rfl, rfl⟩

theorem EncodesInItsStream.goBwd : EncodesInItsStream.Statement .goBwd := ⟨_, rfl, rfl⟩

theorem EncodesInItsStream.goBrk : EncodesInItsStream.Statement .goBrk := ⟨_, rfl, rfl⟩

theorem EncodesInItsStream.sample : EncodesInItsStream.Statement .sample := ⟨_, rfl, rfl⟩

theorem EncodesInItsStream.tbAdv : EncodesInItsStream.Statement .tbAdv := ⟨_, rfl, rfl⟩

theorem EncodesInItsStream.pwmAdv : EncodesInItsStream.Statement .pwmAdv := ⟨_, rfl, rfl⟩

theorem EncodesInItsStream.latch : EncodesInItsStream.Statement .latch := ⟨_, rfl, rfl⟩

theorem EncodesInItsStream.seqStep : EncodesInItsStream.Statement .seqStep := ⟨_, rfl, rfl⟩

theorem EncodesInItsStream.cycle : EncodesInItsStream.Statement .cycle := ⟨_, rfl, rfl⟩

theorem EncodesInItsStream.reset : EncodesInItsStream.Statement .reset := ⟨_, rfl, rfl⟩

theorem EncodesInItsStream.condDiscard : EncodesInItsStream.Statement .condDiscard := ⟨_, rfl, rfl⟩

theorem EncodesInItsStream.condWdForce : EncodesInItsStream.Statement .condWdForce := ⟨_, rfl, rfl⟩

theorem EncodesInItsStream.condCoalescedEdge : EncodesInItsStream.Statement .condCoalescedEdge := ⟨_, rfl, rfl⟩

theorem EncodesInItsStream.condCoalescedTick : EncodesInItsStream.Statement .condCoalescedTick := ⟨_, rfl, rfl⟩

theorem EncodesInItsStream.condCoalescedStart : EncodesInItsStream.Statement .condCoalescedStart := ⟨_, rfl, rfl⟩

theorem EncodesInItsStream.condCoalescedMatch : EncodesInItsStream.Statement .condCoalescedMatch := ⟨_, rfl, rfl⟩

theorem EncodesInItsStream.condFault : EncodesInItsStream.Statement .condFault := ⟨_, rfl, rfl⟩

theorem EncodesInItsStream.stimReset : EncodesInItsStream.Statement .stimReset := ⟨rfl, .inl rfl⟩

theorem EncodesInItsStream.stimRun (level : Bool) (count : BitVec 31) :
    EncodesInItsStream.Statement (.stimRun level count) := ⟨rfl, .inr ⟨level, count, rfl⟩⟩

end Sys2Proof.Laws
end

