-- ==== Sys2Proof/Tests/Slice0.lean ====
section
/-! SUPPORT. Tests: expected values are those of the vectors V<n> of spec/95_test_vectors.md or of the examples of the rules.
First the well-formedness checks, then the words, then one operation each, then a witness for every statement that has
hypotheses. -/

namespace Sys2Proof.Tests

open Sys2Proof.Machine

/-! ### Helpers -/

/-- What an outcome's next state shows; none for a fault or a refusal. -/
def shown {α : Type} (r : Result) (f : State → α) : Option α :=
  match r with
  | .next t => some (f t)
  | .fault _ => none
  | .refused _ => none

/-- S_IDLE_BRAKE(3000) of spec/95_test_vectors.md, but for the trace. -/
def idleBrake : State :=
  { State.reset with time := 3000, pwmCnt := 195, motorState := .brake, tgt := .brake, sw := Switches.braking }

/-- Idle in Forward with duty `d`, at the end of a PWM period. -/
def forward (d : Nat) : State :=
  { State.reset with
    time := 10000, pwmCnt := 254, motorState := .fwd, tgt := .fwd, sw := Switches.fwdLow, wdCnt := 50
    targetState := .fwd, targetPower := d, duty := d, dutySh := d }

/-- Idle in Backward with duty `d`. -/
def backward (d : Nat) : State :=
  { forward d with motorState := .bwd, tgt := .bwd, sw := Switches.bwdBoth, targetState := .bwd }

/-- Busy: from a motor state towards a target, with a bank, in a phase, with so many cycles left. -/
def busyIn (m t : MotorState) (w : Switches) (p : Phase) (n : Nat) : State :=
  { idleBrake with motorState := m, tgt := t, sw := w, phase := p, seqCnt := n }

/-- A pulse that began at 1000 and has lasted `e` cycles. -/
def width (e : Nat) : State := { forward 191 with pulseStart := 1000, time := 1000 + e }

/-- A request for one operation word, waiting in the reset state. -/
def request (w : OpWord) : State := { State.reset with ops := [⟨w, false⟩] }

/-- A stimulus program, waiting in the reset state. -/
def program (ws : List StimWord) : State := { State.reset with stims := ws }

/-! ### Well-formedness -/

theorem test_wf_refuses_a_run_of_no_cycles :
    (Instr.stimRun true 0).wf = false ∧ (Instr.stimRun false 0).wf = false ∧ (Instr.stimRun false 1).wf = true := by
  decide

/-- R12: the default is well formed, and each line broken alone is refused. -/
theorem test_wf_refuses_each_broken_line_of_R12 :
    ({} : Config.Params).wf = true ∧
    ({ pwMin := 0 } : Config.Params).bandOk = false ∧ ({ pwMin := 365 } : Config.Params).bandOk = false ∧
    ({ pwMax := 385 } : Config.Params).bandOk = false ∧ ({ timeW := 8 } : Config.Params).bandOk = false ∧
    ({ dead := 0 } : Config.Params).delaysOk = false ∧ ({ settle := 4096 } : Config.Params).delaysOk = false ∧
    ({ wdMax := 256 } : Config.Params).watchdogOk = false ∧ ({ tickShift := 32 } : Config.Params).tickOk = false ∧
    ({ dutyMax := 254 } : Config.Params).pwmOk = false ∧ ({ pwmPeriod := 257 } : Config.Params).pwmOk = false := by
  decide

/-! ### Words (R86, R83, R84, R85, R250, R90, R91) -/

theorem test_words_switches :
    decodeTableWord 8 0b00010000 = some .swOffFh ∧ decodeTableWord 8 0b00010001 = some .swOffFl ∧
    decodeTableWord 8 0b00010010 = some .swOffBh ∧ decodeTableWord 8 0b00010011 = some .swOffBl ∧
    decodeTableWord 8 0b00100000 = some .swOnFh ∧ decodeTableWord 8 0b00100001 = some .swOnFl ∧
    decodeTableWord 8 0b00100010 = some .swOnBh ∧ decodeTableWord 8 0b00100011 = some .swOnBl := by decide

theorem test_words_services :
    decodeTableWord 8 0b00110000 = some .edgeRise ∧ decodeTableWord 8 0b00110001 = some .edgeFall ∧
    decodeTableWord 8 0b01000000 = some .tick ∧ decodeTableWord 8 0b01010000 = some .pwmStart ∧
    decodeTableWord 8 0b01010001 = some .pwmMatch ∧ decodeTableWord 8 0b01100000 = some .arb := by decide

theorem test_words_go :
    decodeTableWord 8 0b01110001 = some .goFwd ∧ decodeTableWord 8 0b01110010 = some .goBwd ∧
    decodeTableWord 8 0b01110011 = some .goBrk ∧ decodeTableWord 8 0b01110000 = none := by decide

theorem test_words_cycle :
    decodeTableWord 8 0b10000000 = some .sample ∧ decodeTableWord 8 0b10000001 = some .tbAdv ∧
    decodeTableWord 8 0b10000010 = some .pwmAdv ∧ decodeTableWord 8 0b10000011 = some .latch ∧
    decodeTableWord 8 0b10000100 = some .seqStep ∧ decodeTableWord 8 0b10010000 = some .cycle ∧
    decodeTableWord 8 0b11110000 = some .reset := by decide

theorem test_words_conditions :
    decodeTableWord 8 0b11000001 = some .condDiscard ∧ decodeTableWord 8 0b11000010 = some .condWdForce ∧
    decodeTableWord 8 0b11000100 = some .condCoalescedEdge ∧ decodeTableWord 8 0b11000101 = some .condCoalescedTick ∧
    decodeTableWord 8 0b11000110 = some .condCoalescedStart ∧ decodeTableWord 8 0b11000111 = some .condCoalescedMatch ∧
    decodeTableWord 8 0b11001111 = some .condFault ∧ decodeTableWord 8 0b11000011 = none := by decide

theorem test_words_stimulus :
    decodeTableWord 32 0x00000000 = some .stimReset ∧ decodeTableWord 32 0x800001C2 = some (.stimRun true 450) ∧
    decodeTableWord 32 0x80000000 = none ∧ decodeTableWord 16 0 = none := by decide

/-- Why a word is refused (R89, R195, R250, R91). -/
theorem test_reserved_words_by_name :
    decodeOp 0x70 = .error .goUninitialized ∧ decodeOp 0xC3 = .error (.reservedCondition 0xC3) ∧
    decodeOp 0xFF = .error (.reservedOpWord 0xFF) ∧ decodeStim 0x80000000 = .error .reservedStimWord := by decide

/-- Lines of a stimulus file (R92): a comment, a pulse, a frame. -/
theorem test_text_of_a_program :
    ((parseProgram ["RESET ; start".toList, "".toList, "RUN 1, 450".toList, "PULSE 3, 4".toList, "FRAME 300".toList]).bind
      assemble) =
      some [0, 0x800001C2, 0x80000003, 0x00000004, 0x8000012C, 0x0000125C] := by decide

/-- The reader takes leading zeros, a choice of the model's (log 23); R92's levels are 0 and 1 only. -/
theorem test_text_leading_zeros :
    parseLine "RUN 01, 0450".toList = some [.run true 450] ∧ parseLine "RUN 2, 450".toList = none := by decide

/-- A printed record (R93) and a serialised register (R61). -/
theorem test_line_and_serialisation :
    Record.line ⟨600, 0x31, some 450⟩ = some "600: EDGE_FALL 450" ∧
    ({ State.reset with time := 0x01020304 } : State).serialise .time = [4, 3, 2, 1] := by decide

/-! ### Operations -/

/-- V30, V31, V32a, V32b. -/
theorem test_switches :
    shown (exec .swOnFl State.reset) (·.sw.code) = some 0b0010 ∧
    shown (exec .swOnFl { State.reset with sw := Switches.fwdLow }) (·.sw.code) = some 0b0010 ∧
    shown (exec .swOffBl idleBrake) (·.sw.code) = some 0b0010 ∧
    shown (exec .swOffFh State.reset) (fun t => (t.sw.code, t.trace.length)) = some (0b0000, 2) := by decide

/-- V33. -/
theorem test_edgeRise :
    shown (exec .edgeRise { State.reset with time := 3001 }) (fun t => (t.pulseStart, t.wdCnt)) = some (3001, 50) := by
  decide

/-- V33T: both ends of each range. -/
theorem test_edgeFall_widths :
    ([274, 275, 300, 364, 365, 385, 386, 450, 475, 476].map fun e =>
      shown (exec .edgeFall (width e)) fun t => (t.targetState, t.targetPower)) =
    [some (.fwd, 191), some (.bwd, 255), some (.bwd, 191), some (.bwd, 28), some (.brake, 0), some (.brake, 0),
      some (.fwd, 28), some (.fwd, 191), some (.fwd, 255), some (.fwd, 191)] := by decide

/-- V34: the width across the wrap of TIME. -/
theorem test_edgeFall_wrap :
    shown (exec .edgeFall { State.reset with pulseStart := 0xFFFFFF00, time := 0xC2 })
      (fun t => (t.targetState, t.targetPower)) = some (.fwd, 191) := by decide

/-- V37 to V41. -/
theorem test_tick :
    shown (exec .tick { forward 191 with wdCnt := 1 }) (fun t => (t.wdCnt, t.targetState)) = some (0, .fwd) ∧
    shown (exec .tick { forward 191 with wdCnt := 0 }) (fun t => (t.wdCnt, t.targetState, t.targetPower)) =
      some (0, .brake, 191) ∧
    shown (exec .tick idleBrake) (fun t => (t.wdCnt, t.trace.length)) = some (0, 2) := by decide

/-- V61 to V64. -/
theorem test_pwmStart :
    shown (exec .pwmStart (forward 191)) (·.sw.code) = some 0b0011 ∧
    shown (exec .pwmStart { backward 1 with sw := Switches.bwdLow }) (·.sw.code) = some 0b1100 ∧
    shown (exec .pwmStart (forward 0)) (·.sw.code) = some 0b0010 ∧
    shown (exec .pwmStart { idleBrake with dutySh := 191 }) (·.sw.code) = some 0b1010 := by decide

/-- V65 to V67. -/
theorem test_pwmMatch :
    shown (exec .pwmMatch { forward 191 with sw := Switches.fwdBoth }) (·.sw.code) = some 0b0010 ∧
    shown (exec .pwmMatch { forward 255 with sw := Switches.fwdBoth }) (·.sw.code) = some 0b0011 ∧
    shown (exec .pwmMatch idleBrake) (·.sw.code) = some 0b1010 := by decide

/-- V69, V71, V72, V76. -/
theorem test_arb :
    shown (exec .arb { idleBrake with targetState := .fwd, targetPower := 191, duty := 7 })
      (fun t => (t.duty, t.phase, t.tgt)) = some (0, .dead1, .fwd) ∧
    shown (exec .arb { forward 191 with targetState := .brake, targetPower := 0 })
      (fun t => (t.duty, t.phase, t.tgt)) = some (191, .dead1, .brake) ∧
    shown (exec .arb { forward 191 with targetState := .bwd }) (fun t => (t.phase, t.tgt)) = some (.dead1, .brake) ∧
    shown (exec .arb { forward 191 with targetPower := 100 }) (fun t => (t.duty, t.phase)) = some (100, .idle) := by
  decide

/-- V44 to V47. -/
theorem test_go :
    shown (exec .goBrk State.reset) (fun t => (t.sw.code, t.seqCnt)) = some (0b0000, 50) ∧
    shown (exec .goFwd idleBrake) (fun t => (t.sw.code, t.tgt)) = some (0b0010, .fwd) ∧
    shown (exec .goBwd idleBrake) (fun t => (t.sw.code, t.tgt)) = some (0b1000, .bwd) ∧
    shown (exec .goBrk { forward 191 with sw := Switches.fwdBoth }) (·.sw.code) = some 0b0010 := by decide

/-- V49, V50: the no-op emits nothing, and a GO while busy is a fault with reason 4. -/
theorem test_go_noop_and_busy :
    exec .goFwd (forward 191) = .next (forward 191) ∧
    exec .goBwd (busyIn .brake .fwd Switches.fwdLow .dead1 9) =
      .fault (.goBusy { busyIn .brake .fwd Switches.fwdLow .dead1 9 with
        trace := [⟨3000, 0xCF, some 4⟩, ⟨0, 0xF0, none⟩] }) := ⟨rfl, rfl⟩

/-- V17, V19. -/
theorem test_sample :
    shown (exec .sample { State.reset with rcIn := true }) (fun t => (t.rcPrev, t.ev.edge)) = some (true, true) ∧
    shown (exec .sample { State.reset with rcPrev := true }) (fun t => (t.rcPrev, t.ev.edge)) = some (false, true) := by
  decide

/-- V20 to V22. -/
theorem test_tbAdv :
    shown (exec .tbAdv { State.reset with time := 255 }) (fun t => (t.time, t.ev.tick)) = some (256, true) ∧
    shown (exec .tbAdv { State.reset with time := 256 }) (fun t => (t.time, t.ev.tick)) = some (257, false) ∧
    shown (exec .tbAdv { State.reset with time := 0xFFFFFFFF }) (fun t => (t.time, t.ev.tick)) = some (0, true) := by
  decide

/-- V23 to V25. -/
theorem test_pwmAdv :
    shown (exec .pwmAdv { State.reset with pwmCnt := 254, duty := 100, dutySh := 7 })
      (fun t => (t.pwmCnt, t.dutySh, t.ev.start, t.ev.pwmMatch)) = some (0, 100, true, false) ∧
    shown (exec .pwmAdv { State.reset with pwmCnt := 99, dutySh := 100 })
      (fun t => (t.pwmCnt, t.ev.start, t.ev.pwmMatch)) = some (100, false, true) ∧
    shown (exec .pwmAdv { State.reset with pwmCnt := 254, dutySh := 9 })
      (fun t => (t.dutySh, t.ev.start, t.ev.pwmMatch)) = some (0, true, true) := by decide

/-- V27, V28. -/
theorem test_latch :
    shown (exec .latch { State.reset with ev := ⟨true, true, false, false⟩ })
      (fun t => (t.pend.code, t.trace.length)) = some (0b0011, 2) ∧
    shown (exec .latch { State.reset with ev := ⟨false, true, false, false⟩, pend := ⟨false, true, false, false⟩ })
      (fun t => (t.pend.code, t.trace.head?)) = some (0b0010, some ⟨0, 0xC5, none⟩) := by decide

/-- V51 to V53, V56. -/
theorem test_seqStep :
    shown (exec .seqStep (busyIn .brake .fwd Switches.fwdLow .dead1 2)) (fun t => (t.seqCnt, t.phase)) = some (1, .dead1) ∧
    shown (exec .seqStep (busyIn .brake .fwd Switches.fwdLow .dead1 1)) (fun t => (t.seqCnt, t.phase)) = some (50, .dead2) ∧
    shown (exec .seqStep (busyIn .brake .fwd Switches.fwdLow .dead2 1)) (fun t => (t.sw.code, t.motorState, t.phase)) =
      some (0b0011, .fwd, .idle) ∧
    shown (exec .seqStep (busyIn .fwd .brake Switches.fwdLow .dead1 1)) (fun t => (t.sw.code, t.motorState, t.seqCnt)) =
      some (0b1010, .brake, 2500) := by decide

/-- V58: an illegal combination stops the model with reason 2. -/
theorem test_seqStep_illegal :
    exec .seqStep (busyIn .brake .brake Switches.braking .dead2 1) =
      .fault (.seqIllegal { busyIn .brake .brake Switches.braking .dead2 0 with
        trace := [⟨3000, 0xCF, some 2⟩, ⟨3000, 0x84, none⟩, ⟨0, 0xF0, none⟩] }) := rfl

/-- V79: with all four flags set the services run in order, and no flag is left. -/
theorem test_cycle_service_order :
    shown (exec .cycle { forward 0 with rcPrev := true, time := 10239 })
      (fun t => (t.pend.code, (t.trace.map (·.word)).reverse)) =
    some (0, [0xF0, 0x90, 0x80, 0x81, 0x82, 0x83, 0x31, 0xC1, 0x40, 0x50, 0x51, 0x10, 0x12, 0x60]) := by
  decide

/-- R284: an input that is high at RESET is a rising edge in cycle 1. -/
theorem test_cycle_high_at_reset :
    shown (exec .cycle { State.reset with rcIn := true }) (fun t => (t.pulseStart, t.wdCnt, t.tgt, t.phase)) =
      some (1, 50, .brake, .dead1) := by decide

/-- V83. -/
theorem test_reset_abandons_a_transition :
    shown (exec .reset (busyIn .brake .fwd Switches.fwdLow .dead1 9)) (fun t => (t.sw.code, t.phase, t.motorState, t.time)) =
      some (0, .idle, .uninit, 0) := by decide

theorem test_conditions_change_no_register :
    shown (exec .condDiscard (width 300)) (fun t => (Reg.all.map t.read, t.trace.head?)) =
      some (Reg.all.map (width 300).read, some ⟨1300, 0xC1, some 300⟩) := by decide

/-- V30 with R143: the pin shows the bank of the period before. -/
theorem test_pins_one_period_late :
    shown (exec .cycle { State.reset with sw := Switches.fwdLow }) (·.pins.fl) = some true := by decide

/-- V2 and R120: a stimulus word runs its cycles. -/
theorem test_stimRun :
    shown (step (program [0x80000003])) (fun t => (t.time, t.rcPrev, t.stims)) = some (3, true, []) := by decide

/-- V10, V11, V16: a reserved word stops with reason 1. -/
theorem test_step_reserved_word :
    step (request 0x14) = .fault (.reservedWord { State.reset with trace := [⟨0, 0xCF, some 1⟩, ⟨0, 0xF0, none⟩] }) := rfl

/-! ### Witnesses: a state that meets the hypotheses of each statement, clause by clause -/

theorem test_witness_ReservedOperationWordsFault :
    (request 0x70).cfg.wf = true ∧ stimsOk (request 0x70).stims = true ∧ (request 0x70).started = true ∧
    inReservedRange 0x70 = true ∧ inReservedRange 0x00 = true ∧ inReservedRange 0xFF = true ∧
    inReservedRange 0x6F = true ∧ inReservedRange 0x71 = false := by decide

theorem test_witness_ZeroStimulusResetsAndReservedStimulusIsRefused :
    (program [0x00000000, 0x00000001]).cfg.wf = true ∧ (program [0x00000000, 0x00000001]).ops = [] ∧
    stimsOk [0x00000001] = true ∧ 0x80000000 ∈ (program [0x00000001, 0x80000000]).stims := by decide

theorem test_witness_OnlyMalformedTracesAreRefused :
    loadTrace [⟨0, 0xC3, none⟩] State.reset = .refused .malformedTrace ∧
    shown (loadTrace [⟨0, 0xCF, some 1⟩] State.reset) (·.ops) = some [⟨0xCF, false⟩] := ⟨rfl, by decide⟩

theorem test_witness_StepRunsTheDecodedInstruction :
    (request 0x73).cfg.wf = true ∧ stimsOk (request 0x73).stims = true ∧ (request 0x73).started = true ∧
    decodeOp 0x73 = .ok .goBrk ∧ (program [0x00000001]).ops = [] ∧ decodeStim 0x00000001 = .ok (.stimRun false 1) ∧
    decodeTableWord 8 0x73 = some .goBrk ∧ decodeTableWord 32 1 = some (.stimRun false 1) := by decide

theorem test_witness_ClockRunsOnWithoutStimulus :
    State.reset.cfg.wf = true ∧ State.reset.started = true ∧ State.reset.ops = [] ∧ State.reset.stims = [] := by decide

theorem test_witness_ExactlyIllFormedConfigurationsAreRefused :
    ({ State.reset with cfg := { pwMin := 0 } } : State).cfg.wf = false ∧
    step { State.reset with cfg := { pwMin := 0 } } = .refused .illFormedConfig := ⟨by decide, rfl⟩

theorem test_witness_OnlyResetRunsBeforeTheFirstReset :
    stimsOk (request 0x90).stims = true ∧
    fetch { request 0x90 with started := false } = .instr .cycle { State.reset with started := false } ∧
    fetch { request 0xF0 with started := false } = .instr .reset { State.reset with started := false } ∧
    fetch { program [0] with started := false } = .instr .stimReset { State.reset with started := false } := by decide

theorem test_witness_PinsShowTheLastPeriodsBank :
    (∃ t, exec .cycle State.reset = .next t) ∧ (∃ t, exec .reset State.reset = .next t) ∧
    (∃ t, exec .swOnFl State.reset = .next t) := ⟨⟨_, rfl⟩, ⟨_, rfl⟩, ⟨_, rfl⟩⟩

theorem test_witness_EdgeFallDecodesTheWidth :
    ∀ e ∈ [274, 275, 364, 365, 385, 386, 475, 476],
      (width e).cfg.wf = true ∧ (e : Int) = (((width e).time : Int) - (width e).pulseStart) % (2 ^ 32 : Nat) := by decide

theorem test_witness_DefaultDeadzoneIsTwentyOneWidths :
    ∀ e ∈ [275, 364, 365, 385, 386, 475], (width e).cfg = {} ∧ elapsed (width e) = e ∧
      shown (exec .edgeFall (width e)) (fun _ => ()) = some () := by decide

theorem test_witness_ElapsedWidthIsModular :
    ({ State.reset with pulseStart := 0xFFFFFF00, time := 0xC2 } : State).time =
      (0xFFFFFF00 + (2 ^ 32 + 450)) % 2 ^ 32 := by decide

theorem test_witness_DecodedPowerIsMonotonic :
    (width 386).cfg.wf = true ∧ (width 475).cfg = (width 386).cfg ∧ (width 275).cfg = (width 364).cfg ∧
    [386, 475, 275, 364].map (fun e => elapsed (width e)) = [386, 475, 275, 364] ∧
    (∀ e ∈ [386, 475, 275, 364], shown (exec .edgeFall (width e)) (fun _ => ()) = some ()) := by decide

theorem test_witness_EdgeServiceReadsLevelAndTimeAtService :
    ({ forward 191 with rcPrev := true } : State).rcPrev = true ∧ (forward 191).rcPrev = false := by decide

theorem test_witness_TickCountsDownOrForcesBraking :
    ({ forward 191 with wdCnt := 0 } : State).wdCnt = 0 ∧ (forward 191).motorState ≠ .brake ∧ 0 < (forward 191).wdCnt ∧
    idleBrake.wdCnt = 0 ∧ idleBrake.motorState = .brake := by decide

theorem test_witness_WatchdogForcesOnTheTickAfterZero :
    (forward 191).motorState ≠ .brake ∧ State.reset.motorState ≠ .brake := by decide

theorem test_witness_WatchdogBrakesInTheCycleOfItsTick :
    let s := { forward 191 with wdCnt := 0, time := 10239 }
    s.boundary = true ∧ s.phase = .idle ∧ s.motorState ≠ .brake ∧ ¬ (s.rcIn = true ∧ s.rcPrev = false) ∧
      (s.time + 1) % 2 ^ s.cfg.timeW % 2 ^ s.cfg.tickShift = 0 := by decide

theorem test_witness_PwmStartTurnsOnTheDrivenHighSide :
    0 < (forward 1).dutySh ∧ (forward 1).motorState = .fwd ∧ 0 < (backward 255).dutySh ∧
    (backward 255).motorState = .bwd ∧ (forward 0).dutySh = 0 ∧ idleBrake.motorState = .brake ∧
    State.reset.motorState = .uninit := by decide

theorem test_witness_PwmMatchTurnsBothHighSidesOff :
    (forward 254).dutySh < (forward 254).cfg.dutyMax ∧ (forward 254).motorState ≠ .brake ∧
    (forward 255).cfg.dutyMax ≤ (forward 255).dutySh ∧ idleBrake.motorState = .brake := by decide

theorem test_witness_PwmAdvCountsAndCompares :
    (forward 1).cfg.wf = true ∧ (forward 1).pwmCnt = (forward 1).cfg.pwmPeriod - 1 ∧
    idleBrake.pwmCnt ≠ idleBrake.cfg.pwmPeriod - 1 ∧ idleBrake.pwmCnt < 255 := by decide

theorem test_witness_OneStartAndOneMatchPerPeriod :
    (forward 191).cfg.wf = true ∧ (forward 191).pwmCnt = (forward 191).cfg.pwmPeriod - 1 ∧
    191 < (forward 191).cfg.pwmPeriod ∧ 0 < (forward 0).cfg.pwmPeriod := by decide

theorem test_witness_OnTimeOfAPeriodIsItsDuty :
    ∀ d ∈ [0, 1, 191, 254, 255], ∀ s ∈ [{ forward d with targetPower := 7 }, { backward d with sw := Switches.bwdLow }],
      s.boundary = true ∧ s.phase = .idle ∧ (s.motorState = .fwd ∨ s.motorState = .bwd) ∧
        s.targetState = s.motorState ∧ s.pwmCnt = s.cfg.pwmPeriod - 1 ∧
        (∀ n ∈ [1, 255], n ≤ s.cfg.pwmPeriod ∧ (n - 1) / 2 ^ s.cfg.tickShift + 1 ≤ s.wdCnt) := by decide

theorem test_witness_GoFwdStartsAForwardTransition :
    (busyIn .brake .fwd Switches.fwdLow .dead1 9).phase ≠ .idle ∧ (forward 1).phase = .idle ∧
    (forward 1).motorState = .fwd ∧ idleBrake.phase = .idle ∧ idleBrake.motorState ≠ .fwd := by decide

theorem test_witness_GoBwdStartsABackwardTransition :
    (busyIn .brake .bwd Switches.bwdLow .dead2 9).phase ≠ .idle ∧ (backward 1).phase = .idle ∧
    (backward 1).motorState = .bwd ∧ idleBrake.phase = .idle ∧ idleBrake.motorState ≠ .bwd := by decide

theorem test_witness_GoBrkStartsABrakingTransition :
    (busyIn .brake .brake Switches.braking .settle 9).phase ≠ .idle ∧ idleBrake.phase = .idle ∧
    idleBrake.motorState = .brake ∧ State.reset.phase = .idle ∧ State.reset.motorState ≠ .brake := by decide

theorem test_witness_SeqStepCountsDown : 2 ≤ (busyIn .brake .fwd Switches.fwdLow .dead1 2).seqCnt := by decide

theorem test_witness_SeqStepActsAtTheEndOfADelay :
    ∀ p ∈ [(Phase.dead1, MotorState.fwd), (.dead1, .bwd), (.dead2, .fwd), (.dead2, .bwd), (.dead1, .brake), (.settle, .brake)],
      (busyIn .brake p.2 Switches.off p.1 1).seqCnt = 1 ∧ (busyIn .brake p.2 Switches.off p.1 1).phase = p.1 ∧
        (busyIn .brake p.2 Switches.off p.1 1).tgt = p.2 := by decide

theorem test_witness_IllegalSequencerStateFaults :
    (busyIn .brake .brake Switches.off .dead2 1).seqCnt = 1 ∧ seqBusyOk .dead2 .brake = false ∧
    seqBusyOk .idle .fwd = false ∧ seqBusyOk .settle .fwd = false := by decide

theorem test_witness_CountersPastTheirRangeTakeAFreeValue :
    State.reset.seqCnt = 0 ∧ 255 ≤ ({ State.reset with pwmCnt := 255 } : State).pwmCnt ∧
    ({ State.reset with pwmCnt := 255 } : State).pwmCnt ≠ State.reset.cfg.pwmPeriod - 1 := by decide

theorem test_witness_DelayHoldsUnderAnyInput :
    let s := busyIn .brake .fwd Switches.fwdLow .dead1 3
    s.boundary = true ∧ s.phase ≠ .idle ∧ s.seqCnt = [true, false].length + 1 ∧
      (busyIn .brake .brake Switches.braking .settle 1).boundary = true := by decide

theorem test_witness_DriveTransitionTakesTwoDeadTimes :
    let s := busyIn .brake .fwd Switches.fwdLow .dead1 50
    let u := busyIn .brake .bwd Switches.bwdLow .dead1 50
    s.boundary = true ∧ s.phase = .dead1 ∧ s.tgt = .fwd ∧ s.tgt ≠ .brake ∧ s.seqCnt = s.cfg.dead ∧
      u.boundary = true ∧ u.tgt = .bwd ∧
      (∀ n ∈ [49, 50, 99, 100], (List.replicate n true).length ≤ 2 * s.cfg.dead) := by decide

theorem test_witness_BrakingTransitionTakesDeadTimeAndSettle :
    let s := busyIn .fwd .brake Switches.fwdLow .dead1 50
    s.boundary = true ∧ s.phase = .dead1 ∧ s.tgt = .brake ∧ s.seqCnt = s.cfg.dead ∧
      (∀ n ∈ [49, 50, 2549, 2550], (List.replicate n true).length ≤ s.cfg.dead + s.cfg.settle) := by
  simp only [List.length_replicate]
  decide

theorem test_witness_ArbComparesTargetAndMotorState :
    ({ forward 1 with targetState := .uninit } : State).targetState = .uninit ∧
    (forward 1).targetState ≠ .uninit ∧ (forward 1).targetState = (forward 1).motorState ∧
    ({ idleBrake with targetState := .fwd } : State).motorState = .brake ∧
    ({ forward 1 with targetState := .bwd } : State).targetState ≠ (forward 1).motorState ∧
    State.reset.targetState ≠ State.reset.motorState := by decide

theorem test_witness_ReversalsPassThroughBraking :
    (forward 1).phase = .idle ∧ (forward 1).targetState ≠ .uninit ∧
    ({ forward 1 with targetState := .bwd } : State).motorState = .fwd ∧
    ({ backward 1 with targetState := .fwd } : State).motorState = .bwd := by decide

theorem test_witness_MotorStateChangesOnlyToOrFromBraking :
    (busyIn .brake .fwd Switches.fwdLow .dead2 1).boundary = true ∧
    shown (exec .cycle (busyIn .brake .fwd Switches.fwdLow .dead2 1)) (·.motorState) = some .fwd := by decide

theorem test_witness_BusyCycleHoldsEventsAndArbiter :
    let s := busyIn .brake .brake Switches.braking .settle 2
    let u := busyIn .brake .fwd Switches.fwdLow .dead1 1
    s.boundary = true ∧ s.phase ≠ .idle ∧ 2 ≤ s.seqCnt ∧ u.boundary = true ∧ u.phase = .dead1 ∧
      s.pwmCnt ≠ s.cfg.pwmPeriod - 1 ∧ ({ s with pwmCnt := 254 } : State).boundary = true := by decide

theorem test_witness_ServiceLeavesNoFlagPending :
    State.reset.phase = .idle ∧ (∃ t, exec .cycle State.reset = .next t) ∧
    (busyIn .brake .fwd Switches.fwdLow .dead2 1).boundary = true ∧
    (busyIn .brake .brake Switches.braking .settle 1).boundary = true ∧
    shown (exec .cycle (busyIn .brake .brake Switches.braking .settle 1)) (·.phase) = some .idle :=
  ⟨rfl, ⟨_, rfl⟩, by decide, by decide, by decide⟩

theorem test_witness_FallingEdgeIsActedOnInItsCycle :
    ∀ e ∈ [275, 375, 475],
      let s := { width (e - 1) with rcPrev := true }
      s.boundary = true ∧ s.phase = .idle ∧ s.rcPrev = true ∧ s.rcIn = false ∧
        (s.time + 1) % 2 ^ s.cfg.timeW % 2 ^ s.cfg.tickShift ≠ 0 ∧
        (e : Int) = (((s.time + 1) % 2 ^ s.cfg.timeW : Nat) - (s.pulseStart : Int)) % (2 ^ s.cfg.timeW : Nat) ∧
        s.cfg.pwMin ≤ e ∧ e ≤ s.cfg.pwMax := by decide

theorem test_witness_TimeAndPwmCountTheCyclesSinceReset : [true, false, true].length < 2 ^ 32 := by decide

theorem test_witness_StimulusRunIsConsecutiveCycles : (0 : BitVec 31) = 0 ∧ (1 : BitVec 31) ≠ 0 := by decide

theorem test_witness_StimulusRunCompletesFromABoundary :
    idleBrake.boundary = true ∧ (1 : BitVec 31) ≠ 0 ∧ (2147483647 : BitVec 31) ≠ 0 := by decide

theorem test_witness_AccessMatrixBoundsEveryWrite :
    (∃ t, exec .tick State.reset = .next t) ∧ Reg.duty ∉ mayWrite .tick := ⟨⟨_, rfl⟩, by decide⟩

theorem test_witness_NoInstructionChangesConfigurationOrPastTrace :
    (∃ t, exec .arb State.reset = .next t) ∧ State.reset.started = true := ⟨⟨_, rfl⟩, rfl⟩

theorem test_witness_EveryDrivenStepKeepsTheBoundary :
    (program [0x00000000, 0x800001C2]).driven = true ∧ idleBrake.driven = true ∧ (forward 191).driven = true ∧
    (backward 191).driven = true ∧ (busyIn .fwd .brake Switches.fwdLow .dead1 50).driven = true := by decide

theorem test_witness_EveryStepKeepsTheRegisterWidths :
    (request 0x71).sound = true ∧ shown (step (request 0x71)) (·.phase) = some .dead1 := by decide

theorem test_witness_EveryCycleAdvancesTimeAndPwmCount :
    (forward 191).boundary = true ∧ (forward 191).pwmCnt = (forward 191).cfg.pwmPeriod - 1 ∧
    idleBrake.boundary = true ∧ idleBrake.pwmCnt ≠ idleBrake.cfg.pwmPeriod - 1 ∧
    (busyIn .brake .fwd Switches.fwdLow .dead1 9).boundary = true := by decide

theorem test_witness_NoShootThroughAfterAnyMicroOperation :
    State.reset.boundary = true ∧ idleBrake.boundary = true ∧ (forward 191).boundary = true ∧
    (backward 191).boundary = true := by decide

end Sys2Proof.Tests
end

section
/-! PROOFS. R12 (spec/00_scope.md): what a well-formed configuration is, line by line; no instruction refuses, so that the
configuration check of `step` is the only source of the refusal. -/

namespace Sys2Proof

/-- The five lines of R12 as they are written there; the deadzone is subtracted among the integers. -/
def Config.Params.Rule12 (c : Config.Params) : Prop :=
  (0 < c.pwMin ∧ (c.pwMin : Int) < (c.pwMid : Int) - c.pwDz ∧ c.pwMid + c.pwDz < c.pwMax ∧ 0 ≤ c.pwDz ∧
    c.pwMax < 2 ^ c.timeW) ∧
  (1 ≤ c.dead ∧ c.dead < 2 ^ c.seqW ∧ 1 ≤ c.settle ∧ c.settle < 2 ^ c.seqW) ∧
  (1 ≤ c.wdMax ∧ c.wdMax < 2 ^ c.wdW) ∧
  (1 ≤ c.tickShift ∧ c.tickShift < c.timeW) ∧
  (c.powerMax = 255 ∧ c.dutyMax = 255 ∧ 2 ≤ c.pwmPeriod ∧ c.pwmPeriod ≤ 256)

theorem Config.Params.bandOk_iff (c : Config.Params) :
    c.bandOk = true ↔ 0 < c.pwMin ∧ (c.pwMin : Int) < (c.pwMid : Int) - c.pwDz ∧ c.pwMid + c.pwDz < c.pwMax ∧
      0 ≤ c.pwDz ∧ c.pwMax < 2 ^ c.timeW := by
  have hmin : (c.pwMin : Int) < (c.pwMid : Int) - c.pwDz ↔ c.pwMin + c.pwDz < c.pwMid := by omega
  simp [Config.Params.bandOk, hmin, and_assoc]

theorem Config.Params.wf_iff_rule12 (c : Config.Params) : c.wf = true ↔ c.Rule12 := by
  simp [Config.Params.wf, Config.Params.Rule12, Config.Params.bandOk_iff, Config.Params.delaysOk,
    Config.Params.watchdogOk, Config.Params.tickOk, Config.Params.pwmOk, and_assoc]

/-- The first line of R12 leaves a width on either side of the deadzone, and neither denominator of R156 and R157 is 0. -/
theorem Config.Params.Rule12.drive_bands_usable {c : Config.Params} (h : c.Rule12) :
    (∃ e, c.pwMid + c.pwDz < e ∧ e ≤ c.pwMax) ∧ (∃ e, c.pwMin ≤ e ∧ (e : Int) < (c.pwMid : Int) - c.pwDz) ∧
      0 < c.pwMax - c.pwMid ∧ 0 < c.pwMid - c.pwMin := by
  obtain ⟨⟨-, hmin, hmax, -, -⟩, -⟩ := h
  exact ⟨⟨c.pwMax, hmax, le_rfl⟩, ⟨c.pwMin, le_rfl, hmin⟩, by omega, by omega⟩

end Sys2Proof

namespace Sys2Proof.Machine

variable {s : State} {q : Refusal}

/-! ### No instruction refuses -/

theorem andThen_ne_refused {r : Result} {k : State → Result} (hr : r ≠ .refused q) (hk : ∀ u, k u ≠ .refused q) :
    andThen r k ≠ .refused q := by
  cases r with
  | next u => exact hk u
  | fault f => simp
  | refused p => exact hr

@[simp] theorem raise_ne_refused (r : FaultReason) : raise r s ≠ .refused q := by simp [raise]

theorem go_ne_refused (g : GoTarget) : go g s ≠ .refused q := by
  obtain ⟨-, h⟩ | ⟨-, -, h⟩ | ⟨-, -, h⟩ := go_outcomes s g <;> simp [h]

theorem seqAct_ne_refused : seqAct s ≠ .refused q := by
  unfold seqAct
  split <;> simp

theorem seqStep_ne_refused : seqStep s ≠ .refused q := by
  unfold seqStep seqCheck
  split
  · simp
  · exact seqAct_ne_refused

theorem arbitrate_ne_refused : arbitrate s ≠ .refused q := by
  unfold arbitrate arbDecide
  split
  · simp
  · split
    · exact go_ne_refused _
    · simp

theorem cycleSeq_ne_refused : cycleSeq s ≠ .refused q := by
  unfold cycleSeq
  split
  · exact seqStep_ne_refused
  · simp

theorem cycleIdle_ne_refused : cycleIdle s ≠ .refused q := by
  unfold cycleIdle
  split
  · simp
  · exact arbitrate_ne_refused

theorem runCycle_ne_refused : runCycle s ≠ .refused q :=
  andThen_ne_refused (andThen_ne_refused cycleSeq_ne_refused fun _ => cycleIdle_ne_refused) (by simp)

theorem runCycles_ne_refused (n : Nat) : runCycles n s ≠ .refused q := by
  induction n generalizing s with
  | zero => simp
  | succ n ih => exact runCycles_succ s n ▸ andThen_ne_refused runCycle_ne_refused fun _ => ih

/-- No instruction refuses: those not named here answer a next state on every path. -/
theorem exec_ne_refused (i : Instr) : exec i s ≠ .refused q := by
  cases i with
  | arb => exact arbitrate_ne_refused
  | goFwd => exact go_ne_refused .fwd
  | goBwd => exact go_ne_refused .bwd
  | goBrk => exact go_ne_refused .brake
  | seqStep => exact seqStep_ne_refused
  | cycle => exact runCycle_ne_refused
  | stimRun level count => exact runCycles_ne_refused count.toNat
  | _ => exact nofun

/-! ### The configuration check -/

theorem step_of_ill_formed (h : s.cfg.wf = false) : step s = .refused .illFormedConfig := by
  simp [step, h]

/-- Past the check of R12, a step refuses for other reasons only (R46, R91). -/
theorem step_ne_illFormedConfig (h : s.cfg.wf = true) : step s ≠ .refused .illFormedConfig := by
  unfold step
  simp only [h, Bool.not_true, Bool.false_eq_true, if_false]
  split
  · simp
  · split
    · split
      · exact exec_ne_refused _
      · simp
    · split <;> simp
    · simp

/-- Settles O9: the lines of R12 are `Params.wf`, which `step` checks first, and no later refusal of a step is for the
configuration. -/
theorem exactlyIllFormedConfigurationsAreRefused : Obligations.ExactlyIllFormedConfigurationsAreRefused := by
  intro s
  refine ⟨fun h : s.cfg.Rule12 => ?_, fun h : ¬ s.cfg.Rule12 => ?_⟩
  · exact ⟨step_ne_illFormedConfig (s.cfg.wf_iff_rule12.mpr h), h.drive_bands_usable⟩
  · exact step_of_ill_formed (Bool.eq_false_iff.mpr (mt s.cfg.wf_iff_rule12.mp h))

end Sys2Proof.Machine
end

section
/-! PROOFS. Register bounds: what `State.sound` says, register by register, and that every operation keeps it, whichever
instruction performs it (R13, R24, R25). -/

namespace Sys2Proof.Machine

/-! ### What `State.sound` says -/

theorem MotorState.code_lt (m : MotorState) : m.code < 2 ^ 2 := by cases m <;> decide

theorem Phase.code_lt (p : Phase) : p.code < 2 ^ 2 := by cases p <;> decide

theorem nibble_lt (b0 b1 b2 b3 : Bool) : nibble b0 b1 b2 b3 < 2 ^ 4 := by
  have h0 := b0.toNat_lt
  have h1 := b1.toNat_lt
  have h2 := b2.toNat_lt
  have h3 := b3.toNat_lt
  unfold nibble
  omega

theorem Reg.mem_all (r : Reg) : r ∈ Reg.all := by cases r <;> decide

theorem State.fits_iff (s : State) : s.fits = true ↔ ∀ r : Reg, s.read r < 2 ^ r.width s.cfg := by
  simp [State.fits, Reg.mem_all]

/-- The bounds that `State.sound` puts on a state. The registers whose every value fits (the enumerations, SW, RC_PREV,
PEND and SEQ) need no clause, and the width of WD_CNT follows from its maximum by line 3 of R12. -/
structure State.Bounded (s : State) : Prop where
  rule12 : s.cfg.Rule12
  time : s.time < 2 ^ s.cfg.timeW
  pulseStart : s.pulseStart < 2 ^ s.cfg.timeW
  wdCnt : s.wdCnt ≤ s.cfg.wdMax
  targetState : s.targetState ≠ .uninit
  targetPower : s.targetPower < 2 ^ 8
  duty : s.duty < 2 ^ 8
  dutySh : s.dutySh < 2 ^ 8
  pwmCnt : s.pwmCnt < 2 ^ 8
  seqCnt : s.seqCnt < 2 ^ s.cfg.seqW

variable {s t : State}

theorem State.Bounded.read_lt (h : s.Bounded) (r : Reg) : s.read r < 2 ^ r.width s.cfg := by
  cases r with
  | time => exact h.time
  | pulseStart => exact h.pulseStart
  | wdCnt =>
    obtain ⟨-, -, ⟨-, hmax⟩, -⟩ := h.rule12
    exact h.wdCnt.trans_lt hmax
  | targetState => exact s.targetState.code_lt
  | targetPower => exact h.targetPower
  | motorState => exact s.motorState.code_lt
  | duty => exact h.duty
  | dutySh => exact h.dutySh
  | pwmCnt => exact h.pwmCnt
  | sw => exact nibble_lt _ _ _ _
  | rcPrev => exact s.rcPrev.toNat_lt
  | pend => exact nibble_lt _ _ _ _
  | seq =>
    have hp := s.phase.code_lt
    have ht := s.tgt.code_lt
    change s.phase.code + 4 * s.tgt.code < 2 ^ 4
    omega
  | seqCnt => exact h.seqCnt

theorem State.sound_iff_bounded : s.sound = true ↔ s.Bounded := by
  simp only [State.sound, Bool.and_eq_true, decide_eq_true_eq, bne_iff_ne, State.fits_iff, Config.Params.wf_iff_rule12]
  constructor
  · rintro ⟨⟨⟨hcfg, hfits⟩, hwd⟩, htarget⟩
    exact ⟨hcfg, hfits .time, hfits .pulseStart, hwd, htarget, hfits .targetPower, hfits .duty, hfits .dutySh,
      hfits .pwmCnt, hfits .seqCnt⟩
  · exact fun h => ⟨⟨⟨h.rule12, h.read_lt⟩, h.wdCnt⟩, h.targetState⟩

namespace State.Bounded

theorem dead_lt (h : s.Bounded) : s.cfg.dead < 2 ^ s.cfg.seqW := by
  obtain ⟨-, ⟨-, hdead, -⟩, -⟩ := h.rule12
  exact hdead

theorem settle_lt (h : s.Bounded) : s.cfg.settle < 2 ^ s.cfg.seqW := by
  obtain ⟨-, ⟨-, -, -, hsettle⟩, -⟩ := h.rule12
  exact hsettle

theorem powerMax_lt (h : s.Bounded) : s.cfg.powerMax < 2 ^ 8 := by
  obtain ⟨-, -, -, -, hpower, -⟩ := h.rule12
  omega

/-- A state that an operation answered is the state the operation computes. -/
theorem of_next (h : s.Bounded) (ht : (.next s : Result) = .next t) : t.Bounded :=
  Host.Outcome.next.inj ht ▸ h

end State.Bounded

/-! ### One rule per update: a bounded register needs its bound, the others need nothing -/

variable {i : Instr} {p : Option Nat} {k : EventSource} {b : Bool} {x : SwitchId}

protected theorem State.Bounded.emitAt {n : Nat} (h : s.Bounded) : (emitAt n i p s).Bounded := { h with }

protected theorem State.Bounded.emit (h : s.Bounded) : (emit i p s).Bounded := { h with }

protected theorem State.Bounded.writeTime {v : Nat} (h : s.Bounded) (hv : v < 2 ^ s.cfg.timeW) :
    (writeTime v s).Bounded := { h with time := hv }

protected theorem State.Bounded.writePulseStart {v : Nat} (h : s.Bounded) (hv : v < 2 ^ s.cfg.timeW) :
    (writePulseStart v s).Bounded := { h with pulseStart := hv }

protected theorem State.Bounded.writeWdCnt {v : Nat} (h : s.Bounded) (hv : v ≤ s.cfg.wdMax) :
    (writeWdCnt v s).Bounded := { h with wdCnt := hv }

protected theorem State.Bounded.writeTargetState {v : MotorState} (h : s.Bounded) (hv : v ≠ .uninit) :
    (writeTargetState v s).Bounded := { h with targetState := hv }

protected theorem State.Bounded.writeTargetPower {v : Nat} (h : s.Bounded) (hv : v < 2 ^ 8) :
    (writeTargetPower v s).Bounded := { h with targetPower := hv }

protected theorem State.Bounded.writeMotorState {v : MotorState} (h : s.Bounded) :
    (writeMotorState v s).Bounded := { h with }

protected theorem State.Bounded.writeDuty {v : Nat} (h : s.Bounded) (hv : v < 2 ^ 8) :
    (writeDuty v s).Bounded := { h with duty := hv }

protected theorem State.Bounded.writeDutySh {v : Nat} (h : s.Bounded) (hv : v < 2 ^ 8) :
    (writeDutySh v s).Bounded := { h with dutySh := hv }

protected theorem State.Bounded.writePwmCnt {v : Nat} (h : s.Bounded) (hv : v < 2 ^ 8) :
    (writePwmCnt v s).Bounded := { h with pwmCnt := hv }

protected theorem State.Bounded.writeRcPrev (h : s.Bounded) : (writeRcPrev b s).Bounded := { h with }

protected theorem State.Bounded.writePhase {v : Phase} (h : s.Bounded) : (writePhase v s).Bounded := { h with }

protected theorem State.Bounded.writeTgt {v : MotorState} (h : s.Bounded) : (writeTgt v s).Bounded := { h with }

protected theorem State.Bounded.writeSeqCnt {v : Nat} (h : s.Bounded) (hv : v < 2 ^ s.cfg.seqW) :
    (writeSeqCnt v s).Bounded := { h with seqCnt := hv }

protected theorem State.Bounded.driveRc (h : s.Bounded) : (driveRc b s).Bounded := { h with }

protected theorem State.Bounded.setPend (h : s.Bounded) : (setPend k s).Bounded := { h with }

protected theorem State.Bounded.clearPend (h : s.Bounded) : (clearPend k s).Bounded := { h with }

protected theorem State.Bounded.setEvent (h : s.Bounded) : (setEvent k b s).Bounded := { h with }

protected theorem State.Bounded.switchOn (h : s.Bounded) : (switchOn x s).Bounded := { h with }

protected theorem State.Bounded.switchOff (h : s.Bounded) : (switchOff x s).Bounded := { h with }

protected theorem State.Bounded.beginPeriod (h : s.Bounded) : (beginPeriod s).Bounded := { h with }

protected theorem State.Bounded.endCycle (h : s.Bounded) : (endCycle s).Bounded := { h with }

protected theorem State.Bounded.takeFree (h : s.Bounded) : (takeFree s).Bounded := { h with }

/-! ### The sequencer and the arbiter -/

protected theorem State.Bounded.seqCntDown (h : s.Bounded) : (seqCntDown s).Bounded := by
  obtain ⟨-, e⟩ | ⟨-, e⟩ := seqCntDown_cases s <;> rw [e]
  · exact h.writeSeqCnt ((Nat.sub_le _ _).trans_lt h.seqCnt)
  · exact h.takeFree.writeSeqCnt (Nat.mod_lt _ (Nat.two_pow_pos _))

protected theorem State.Bounded.startTransition (h : s.Bounded) (g : GoTarget) : (startTransition g s).Bounded :=
  (h.emit.switchOff.switchOff.writeTgt.writePhase).writeSeqCnt h.dead_lt

protected theorem State.Bounded.go {g : GoTarget} (h : s.Bounded) (hgo : go g s = .next t) : t.Bounded := by
  obtain ⟨-, ⟨-, rfl⟩ | ⟨-, rfl⟩⟩ := go_cases hgo
  · exact h
  · exact h.startTransition g

protected theorem State.Bounded.endFirstDead (h : s.Bounded) : (endFirstDead x s).Bounded :=
  h.switchOn.writePhase.writeSeqCnt h.dead_lt

protected theorem State.Bounded.commitDrive (h : s.Bounded) : (commitDrive x s).Bounded :=
  h.switchOn.writeMotorState.writePhase

protected theorem State.Bounded.commitBrake (h : s.Bounded) : (commitBrake s).Bounded :=
  h.switchOn.switchOn.writeMotorState.writePhase.writeSeqCnt h.settle_lt

protected theorem State.Bounded.seqAct (h : s.Bounded) (hact : seqAct s = .next t) : t.Bounded := by
  obtain ⟨-, -, rfl⟩ | ⟨-, -, rfl⟩ | ⟨-, -, rfl⟩ | ⟨-, -, rfl⟩ | ⟨-, -, rfl⟩ | ⟨-, -, rfl⟩ := seqAct_cases hact
  · exact h.endFirstDead
  · exact h.endFirstDead
  · exact h.commitDrive
  · exact h.commitDrive
  · exact h.commitBrake
  · exact h.writePhase

protected theorem State.Bounded.seqStep (h : s.Bounded) (hstep : seqStep s = .next t) : t.Bounded := by
  obtain ⟨-, rfl⟩ | ⟨-, hact⟩ := seqStep_cases hstep
  · exact h.emit.seqCntDown
  · exact h.emit.seqCntDown.seqAct hact

protected theorem State.Bounded.resetDutyFor (h : s.Bounded) (g : GoTarget) : (resetDutyFor g s).Bounded := by
  cases g with
  | fwd => exact h.writeDuty (by decide)
  | bwd => exact h.writeDuty (by decide)
  | brake => exact h

protected theorem State.Bounded.arbitrate (h : s.Bounded) (harb : arbitrate s = .next t) : t.Bounded := by
  obtain ⟨-, ⟨-, rfl⟩ | ⟨-, hgo⟩⟩ := arbitrate_cases harb
  · exact h.emit.writeDuty h.targetPower
  · exact (h.emit.resetDutyFor _).go hgo

/-! ### The services -/

theorem decodeValid_ne_uninit (c : Config.Params) (e : Nat) : (decodeValid c e).1 ≠ .uninit := by
  obtain ⟨-, h⟩ | ⟨-, -, h⟩ | ⟨-, -, h⟩ := decodeValid_cases c e <;> simp [h]

/-- The clamps of R156 and R157 hold the power within P_POWER_MAX. -/
theorem decodeValid_power_le (c : Config.Params) (e : Nat) : (decodeValid c e).2 ≤ c.powerMax := by
  obtain ⟨-, h⟩ | ⟨-, -, h⟩ | ⟨-, -, h⟩ := decodeValid_cases c e <;> simp [h, forwardPower, backwardPower]

protected theorem State.Bounded.edgeRise (h : s.Bounded) : (edgeRise s).Bounded :=
  (h.emit.writePulseStart h.time).writeWdCnt le_rfl

protected theorem State.Bounded.decodeWidth (h : s.Bounded) (e : Nat) : (decodeWidth e s).Bounded := by
  obtain ⟨-, heq⟩ | ⟨-, heq⟩ := decodeWidth_cases s e <;> rw [heq]
  · exact (h.writeTargetState (decodeValid_ne_uninit _ e)).writeTargetPower
      ((decodeValid_power_le _ e).trans_lt h.powerMax_lt)
  · exact h.emit

protected theorem State.Bounded.edgeFall (h : s.Bounded) : (edgeFall s).Bounded := h.emit.decodeWidth _

protected theorem State.Bounded.edgeService (h : s.Bounded) : (edgeService s).Bounded := by
  obtain ⟨-, e⟩ | ⟨-, e⟩ := edgeService_cases s <;> rw [e]
  · exact h.clearPend.edgeRise
  · exact h.clearPend.edgeFall

protected theorem State.Bounded.watchdog (h : s.Bounded) : (watchdog s).Bounded := by
  obtain ⟨-, -, e⟩ | ⟨-, e⟩ | ⟨-, -, e⟩ := watchdog_cases s <;> rw [e]
  · exact (h.writeTargetState (by decide)).emit
  · exact h.writeWdCnt ((Nat.sub_le _ _).trans h.wdCnt)
  · exact h

protected theorem State.Bounded.tickService (h : s.Bounded) : (tickService s).Bounded := h.clearPend.emit.watchdog

protected theorem State.Bounded.highSideOn (h : s.Bounded) : (highSideOn s).Bounded := by
  obtain ⟨-, -, e⟩ | ⟨-, -, e⟩ | ⟨-, e⟩ := highSideOn_cases s <;> rw [e]
  · exact h.switchOn
  · exact h.switchOn
  · exact h

protected theorem State.Bounded.pwmStartService (h : s.Bounded) : (pwmStartService s).Bounded :=
  h.clearPend.emit.highSideOn

protected theorem State.Bounded.highSidesOff (h : s.Bounded) : (highSidesOff s).Bounded := by
  obtain ⟨-, -, e⟩ | ⟨-, e⟩ := highSidesOff_cases s <;> rw [e]
  · exact h.switchOff.switchOff
  · exact h

protected theorem State.Bounded.pwmMatchService (h : s.Bounded) : (pwmMatchService s).Bounded :=
  h.clearPend.emit.highSidesOff

protected theorem State.Bounded.serviceIf {service : State → State} (h : s.Bounded)
    (hservice : s.Bounded → (service s).Bounded) : (serviceIf k service s).Bounded := by
  obtain ⟨-, e⟩ | ⟨-, e⟩ := serviceIf_cases s k service <;> rw [e]
  · exact hservice h
  · exact h

protected theorem State.Bounded.serviceEvents (h : s.Bounded) : (serviceEvents s).Bounded :=
  (((h.serviceIf .edgeService).serviceIf .tickService).serviceIf .pwmStartService).serviceIf .pwmMatchService

/-! ### The cycle and RESET -/

protected theorem State.Bounded.sampleInput {n : Nat} (h : s.Bounded) : (sampleInput n s).Bounded :=
  h.emitAt.setEvent.writeRcPrev

protected theorem State.Bounded.advanceTime (h : s.Bounded) : (advanceTime s).Bounded :=
  (h.emitAt.writeTime (Nat.mod_lt _ (Nat.two_pow_pos _))).setEvent

protected theorem State.Bounded.pwmCntUp (h : s.Bounded) : (pwmCntUp s).Bounded := by
  obtain ⟨hlt, e⟩ | ⟨-, e⟩ := pwmCntUp_cases s <;> rw [e]
  · exact h.writePwmCnt hlt
  · exact h.takeFree.writePwmCnt (BitVec.isLt _)

protected theorem State.Bounded.countPwm (h : s.Bounded) : (countPwm s).Bounded := by
  obtain ⟨-, e⟩ | ⟨-, e⟩ := countPwm_cases s <;> rw [e]
  · exact ((h.writePwmCnt (by decide)).writeDutySh h.duty).setEvent
  · exact h.pwmCntUp.setEvent

protected theorem State.Bounded.advancePwm (h : s.Bounded) : (advancePwm s).Bounded := h.emit.countPwm.setEvent

protected theorem State.Bounded.latchSource (h : s.Bounded) : (latchSource k s).Bounded := by
  obtain ⟨-, e⟩ | ⟨-, -, e⟩ | ⟨-, -, e⟩ := latchSource_cases s k <;> rw [e]
  · exact h
  · exact h.setPend
  · exact h.emit.setPend

protected theorem State.Bounded.latchEvents (h : s.Bounded) : (latchEvents s).Bounded :=
  h.emit.latchSource.latchSource.latchSource.latchSource

protected theorem State.Bounded.cycleFront (h : s.Bounded) : (cycleFront s).Bounded :=
  h.beginPeriod.emitAt.sampleInput.advanceTime.advancePwm.latchEvents

protected theorem State.Bounded.cycleSeq (h : s.Bounded) (hseq : cycleSeq s = .next t) : t.Bounded := by
  unfold cycleSeq at hseq
  split at hseq
  · exact h.seqStep hseq
  · exact h.of_next hseq

protected theorem State.Bounded.cycleIdle (h : s.Bounded) (hidle : cycleIdle s = .next t) : t.Bounded := by
  unfold cycleIdle at hidle
  split at hidle
  · exact h.of_next hidle
  · exact h.serviceEvents.arbitrate hidle

protected theorem State.Bounded.runCycle (h : s.Bounded) (hrun : runCycle s = .next t) : t.Bounded := by
  obtain ⟨u, v, hseq, hidle, rfl⟩ := runCycle_cases hrun
  exact ((h.cycleFront.cycleSeq hseq).cycleIdle hidle).endCycle

protected theorem State.Bounded.runCycles {n : Nat} (h : s.Bounded) (hrun : runCycles n s = .next t) : t.Bounded := by
  induction n generalizing s with
  | zero => exact h.of_next hrun
  | succ n ih =>
    rw [runCycles_succ, andThen_eq_next] at hrun
    obtain ⟨u, hu, hrest⟩ := hrun
    exact ih (h.runCycle hu) hrest

/-- The reset values are within every width (R280); TARGET_STATE resets to Braking. -/
protected theorem State.Bounded.resetBlock (h : s.Bounded) : (resetBlock s).Bounded where
  rule12 := h.rule12
  time := Nat.two_pow_pos _
  pulseStart := Nat.two_pow_pos _
  wdCnt := Nat.zero_le _
  targetState := nofun
  targetPower := Nat.two_pow_pos _
  duty := Nat.two_pow_pos _
  dutySh := Nat.two_pow_pos _
  pwmCnt := Nat.two_pow_pos _
  seqCnt := Nat.two_pow_pos _

/-! ### Every instruction, and every step -/

/-- Every instruction keeps the bounds, in whatever state it is performed. -/
protected theorem State.Bounded.exec (h : s.Bounded) (hexec : exec i s = .next t) : t.Bounded := by
  cases i with
  | swOffFh | swOffFl | swOffBh | swOffBl => exact h.switchOff.of_next hexec
  | swOnFh | swOnFl | swOnBh | swOnBl => exact h.switchOn.of_next hexec
  | edgeRise => exact h.edgeRise.of_next hexec
  | edgeFall => exact h.edgeFall.of_next hexec
  | tick => exact h.tickService.of_next hexec
  | pwmStart => exact h.pwmStartService.of_next hexec
  | pwmMatch => exact h.pwmMatchService.of_next hexec
  | arb => exact h.arbitrate hexec
  | goFwd => exact h.go (g := .fwd) hexec
  | goBwd => exact h.go (g := .bwd) hexec
  | goBrk => exact h.go (g := .brake) hexec
  | sample => exact h.sampleInput.of_next hexec
  | tbAdv => exact h.advanceTime.of_next hexec
  | pwmAdv => exact h.advancePwm.of_next hexec
  | latch => exact h.latchEvents.of_next hexec
  | seqStep => exact h.seqStep hexec
  | cycle => exact h.runCycle hexec
  | reset | stimReset => exact h.resetBlock.of_next hexec
  | condDiscard | condWdForce | condCoalescedEdge | condCoalescedTick | condCoalescedStart | condCoalescedMatch =>
    exact h.emit.of_next hexec
  | condFault => exact h.emit.takeFree.of_next hexec
  | stimRun level count => exact h.driveRc.runCycles hexec

/-- Fetching touches the queues, the input level and the free values only. -/
theorem State.Bounded.of_fetch (h : s.Bounded) (hfetch : fetch s = .instr i t) : t.Bounded := by
  unfold fetch fetchOp fetchStim fetchFree at hfetch
  split at hfetch
  · split at hfetch
    · obtain ⟨-, rfl⟩ := Fetched.instr.inj hfetch
      exact { h with }
    · exact nomatch hfetch
  · split at hfetch
    · split at hfetch
      · obtain ⟨-, rfl⟩ := Fetched.instr.inj hfetch
        exact { h with }
      · exact nomatch hfetch
    · obtain ⟨-, rfl⟩ := Fetched.instr.inj hfetch
      exact h.driveRc.takeFree

/-- Settles O58: `State.sound` is the conjunction of the register bounds, fetching keeps them, and so does the instruction
fetched. -/
theorem everyStepKeepsTheRegisterWidths : Obligations.EveryStepKeepsTheRegisterWidths := by
  intro s t hsound hstep
  obtain ⟨-, -, i, u, hfetch, -, hexec⟩ := step_cases hstep
  exact State.sound_iff_bounded.mpr (((State.sound_iff_bounded.mp hsound).of_fetch hfetch).exec hexec)

end Sys2Proof.Machine
end

section
/-! PROOFS. What may be performed before the first RESET (R46). -/

namespace Sys2Proof.Machine

variable {s u : State} {i : Instr}

/-- Fetching takes a word off its queue, drives `rc_in` and draws a free value; it changes nothing else (log 5, log 6). -/
theorem fetch_cases (hfetch : fetch s = .instr i u) :
    ∃ ops stims rc free, u = { s with ops := ops, stims := stims, rcIn := rc, free := free } := by
  unfold fetch at hfetch
  split at hfetch
  case h_1 r rest _ =>
    unfold fetchOp at hfetch
    split at hfetch
    · obtain ⟨-, rfl⟩ := Fetched.instr.inj hfetch
      exact ⟨rest, s.stims, r.rc, s.free, rfl⟩
    · exact nomatch hfetch
  case h_2 =>
    split at hfetch
    case h_1 w rest _ =>
      unfold fetchStim at hfetch
      split at hfetch
      · obtain ⟨-, rfl⟩ := Fetched.instr.inj hfetch
        exact ⟨s.ops, rest, s.rcIn, s.free, rfl⟩
      · exact nomatch hfetch
    case h_2 =>
      obtain ⟨-, rfl⟩ := Fetched.instr.inj hfetch
      exact ⟨s.ops, s.stims, Config.rcInLevel s.free, s.free + 1, rfl⟩

theorem started_of_fetch (hfetch : fetch s = .instr i u) : u.started = s.started := by
  obtain ⟨ops, stims, rc, free, rfl⟩ := fetch_cases hfetch
  rfl

theorem isReset_iff : isReset i = true ↔ i = .reset ∨ i = .stimReset := by
  simp [isReset]

/-- Before the first RESET exactly the two RESET instructions may be performed (R46). -/
theorem mayPerform_of_not_started (h : s.started = false) : mayPerform i s = isReset i := by
  simp [mayPerform, h]

/-- A step that passes the two checks refuses what it fetches, where that may not be performed (R46). -/
theorem step_refused_of_fetch (hc : s.cfg.wf = true) (hs : stimsOk s.stims = true) (hf : fetch s = .instr i u)
    (hm : mayPerform i u = false) : step s = .refused .notFromReset := by
  simp [step, hc, hs, hf, hm]

theorem exec_of_isReset (h : isReset i = true) : exec i s = .next (resetBlock s) := by
  obtain rfl | rfl := isReset_iff.mp h <;> rfl

@[simp] theorem resetBlock_started : (resetBlock s).started = true := rfl

/-- Settles O10: fetching keeps the flag `started`, so that only RESET may be performed while it is clear, and RESET sets
it. -/
theorem onlyResetRunsBeforeTheFirstReset : Obligations.OnlyResetRunsBeforeTheFirstReset := by
  intro s s' i hcfg hstims hstarted hfetch
  have hmay : mayPerform i s' = isReset i :=
    mayPerform_of_not_started ((started_of_fetch hfetch).trans hstarted)
  constructor
  · intro hne hneStim
    have hnot : isReset i = false := Bool.eq_false_iff.mpr fun h => (isReset_iff.mp h).elim hne hneStim
    exact step_refused_of_fetch hcfg hstims hfetch (hmay.trans hnot)
  · intro hreset
    have h := isReset_iff.mpr hreset
    have hstep : step s = .next (resetBlock s') :=
      (step_of_fetch hcfg hstims hfetch (hmay.trans h)).trans (exec_of_isReset h)
    exact ⟨resetBlock s', hstep, resetBlock_started⟩

end Sys2Proof.Machine
end

section
/-! PROOFS. The frame of every operation: which registers it may write (R38), and what it keeps of the configuration, the
queues and the trace (R20, R94). -/

namespace Sys2Proof.Machine

/-! ### What an operation may change -/

/-- From `s` to `t` only registers among `rs` are written (R38); the configuration, both queues and `rc_in` are kept, the
started flag is not cleared, and the trace only grows, its newest record first (R20, R94). -/
structure State.Frame (rs : List Reg) (s t : State) : Prop where
  read : ∀ r ∉ rs, t.read r = s.read r := by exact fun _ _ => rfl
  cfg : t.cfg = s.cfg := by rfl
  ops : t.ops = s.ops := by rfl
  stims : t.stims = s.stims := by rfl
  rcIn : t.rcIn = s.rcIn := by rfl
  started : s.started = true → t.started = true := by exact id
  trace : s.trace <:+ t.trace := by exact List.suffix_rfl

namespace State.Frame

variable {rs rs' : List Reg} {s t u : State} {i : Instr} {p : Option Nat} {k : EventSource} {b : Bool} {x : SwitchId}
  {v : Nat} {m : MotorState} {g : GoTarget}

theorem refl : Frame rs s s where

theorem trans (h : Frame rs s t) (h' : Frame rs' t u) : Frame (rs ++ rs') s u where
  read r hr := (h'.read r (mt (List.mem_append_right _) hr)).trans (h.read r (mt (List.mem_append_left _) hr))
  cfg := h'.cfg.trans h.cfg
  ops := h'.ops.trans h.ops
  stims := h'.stims.trans h.stims
  rcIn := h'.rcIn.trans h.rcIn
  started := h'.started ∘ h.started
  trace := h.trace.trans h'.trace

theorem mono (h : Frame rs s t) (hsub : rs ⊆ rs') : Frame rs' s t :=
  { h with read := fun r hr => h.read r (mt (@hsub r) hr) }

theorem all (h : Frame rs s t) : Frame Reg.all s t := h.mono fun r _ => r.mem_all

/-- Two operations that each write registers among `rs`, one after the other. -/
theorem trans_same (h : Frame rs s t) (h' : Frame rs t u) : Frame rs s u :=
  (h.trans h').mono (by simp)

/-- A state that an operation answered is the state the operation computes. -/
theorem of_next (h : Frame rs s t) (ht : (.next t : Result) = .next u) : Frame rs s u :=
  Host.Outcome.next.inj ht ▸ h

/-! ### One rule per update -/

protected theorem emitAt {n : Nat} : Frame [] s (emitAt n i p s) where
  trace := List.suffix_cons _ _

protected theorem emit : Frame [] s (emit i p s) := .emitAt

protected theorem writeTime : Frame [.time] s (writeTime v s) where
  read r hr := by cases r with | time => exact absurd (.head _) hr | _ => rfl

protected theorem writePulseStart : Frame [.pulseStart] s (writePulseStart v s) where
  read r hr := by cases r with | pulseStart => exact absurd (.head _) hr | _ => rfl

protected theorem writeWdCnt : Frame [.wdCnt] s (writeWdCnt v s) where
  read r hr := by cases r with | wdCnt => exact absurd (.head _) hr | _ => rfl

protected theorem writeTargetState : Frame [.targetState] s (writeTargetState m s) where
  read r hr := by cases r with | targetState => exact absurd (.head _) hr | _ => rfl

protected theorem writeTargetPower : Frame [.targetPower] s (writeTargetPower v s) where
  read r hr := by cases r with | targetPower => exact absurd (.head _) hr | _ => rfl

protected theorem writeMotorState : Frame [.motorState] s (writeMotorState m s) where
  read r hr := by cases r with | motorState => exact absurd (.head _) hr | _ => rfl

protected theorem writeDuty : Frame [.duty] s (writeDuty v s) where
  read r hr := by cases r with | duty => exact absurd (.head _) hr | _ => rfl

protected theorem writeDutySh : Frame [.dutySh] s (writeDutySh v s) where
  read r hr := by cases r with | dutySh => exact absurd (.head _) hr | _ => rfl

protected theorem writePwmCnt : Frame [.pwmCnt] s (writePwmCnt v s) where
  read r hr := by cases r with | pwmCnt => exact absurd (.head _) hr | _ => rfl

protected theorem writeSw {w : Switches} : Frame [.sw] s (writeSw w s) where
  read r hr := by cases r with | sw => exact absurd (.head _) hr | _ => rfl

protected theorem writeRcPrev : Frame [.rcPrev] s (writeRcPrev b s) where
  read r hr := by cases r with | rcPrev => exact absurd (.head _) hr | _ => rfl

protected theorem writePend {e : Events} : Frame [.pend] s (writePend e s) where
  read r hr := by cases r with | pend => exact absurd (.head _) hr | _ => rfl

protected theorem writePhase {q : Phase} : Frame [.seq] s (writePhase q s) where
  read r hr := by cases r with | seq => exact absurd (.head _) hr | _ => rfl

protected theorem writeTgt : Frame [.seq] s (writeTgt m s) where
  read r hr := by cases r with | seq => exact absurd (.head _) hr | _ => rfl

protected theorem writeSeqCnt : Frame [.seqCnt] s (writeSeqCnt v s) where
  read r hr := by cases r with | seqCnt => exact absurd (.head _) hr | _ => rfl

protected theorem setPend : Frame [.pend] s (setPend k s) := .writePend

protected theorem clearPend : Frame [.pend] s (clearPend k s) := .writePend

protected theorem setEvent : Frame [] s (setEvent k b s) where

protected theorem beginPeriod : Frame [] s (beginPeriod s) where

protected theorem endCycle : Frame [] s (endCycle s) where

protected theorem takeFree : Frame [] s (takeFree s) where

protected theorem switchOn : Frame [.sw] s (switchOn x s) := Frame.emit.trans .writeSw

protected theorem switchOff : Frame [.sw] s (switchOff x s) := Frame.emit.trans .writeSw

/-! ### The sequencer and the arbiter -/

protected theorem seqCntDown : Frame [.seqCnt] s (seqCntDown s) := by
  obtain ⟨-, e⟩ | ⟨-, e⟩ := seqCntDown_cases s <;> rw [e]
  · exact .writeSeqCnt
  · exact Frame.takeFree.trans .writeSeqCnt

protected theorem makeSafe : Frame [.sw] s (makeSafe g s) := Frame.switchOff.trans_same .switchOff

protected theorem startTransition : Frame [.sw, .seq, .seqCnt] s (startTransition g s) :=
  ((((Frame.emit.trans .makeSafe).trans .writeTgt).trans .writePhase).trans .writeSeqCnt).mono (by decide)

protected theorem go (hgo : go g s = .next t) : Frame [.sw, .seq, .seqCnt] s t := by
  obtain ⟨-, ⟨-, rfl⟩ | ⟨-, rfl⟩⟩ := go_cases hgo
  · exact .refl
  · exact .startTransition

protected theorem endFirstDead : Frame [.sw, .seq, .seqCnt] s (endFirstDead x s) :=
  (Frame.switchOn.trans .writePhase).trans .writeSeqCnt

protected theorem commitDrive : Frame [.sw, .motorState, .seq] s (commitDrive x s) :=
  (Frame.switchOn.trans .writeMotorState).trans .writePhase

protected theorem commitBrake : Frame [.sw, .motorState, .seq, .seqCnt] s (commitBrake s) :=
  (((Frame.switchOn.trans_same .switchOn).trans .writeMotorState).trans .writePhase).trans .writeSeqCnt

protected theorem seqAct (hact : seqAct s = .next t) : Frame [.motorState, .sw, .seq, .seqCnt] s t := by
  obtain ⟨-, -, rfl⟩ | ⟨-, -, rfl⟩ | ⟨-, -, rfl⟩ | ⟨-, -, rfl⟩ | ⟨-, -, rfl⟩ | ⟨-, -, rfl⟩ := seqAct_cases hact
  · exact Frame.endFirstDead.mono (by decide)
  · exact Frame.endFirstDead.mono (by decide)
  · exact Frame.commitDrive.mono (by decide)
  · exact Frame.commitDrive.mono (by decide)
  · exact Frame.commitBrake.mono (by decide)
  · exact Frame.writePhase.mono (by decide)

protected theorem seqStep (hstep : seqStep s = .next t) : Frame [.motorState, .sw, .seq, .seqCnt] s t := by
  have hcount : Frame [.seqCnt] s (seqCntDown (emit .seqStep none s)) := Frame.emit.trans .seqCntDown
  obtain ⟨-, rfl⟩ | ⟨-, hact⟩ := seqStep_cases hstep
  · exact hcount.mono (by decide)
  · exact (hcount.trans (.seqAct hact)).mono (by decide)

protected theorem resetDutyFor : Frame [.duty] s (resetDutyFor g s) := by
  cases g with
  | fwd | bwd => exact .writeDuty
  | brake => exact .refl

protected theorem arbitrate (harb : arbitrate s = .next t) : Frame [.duty, .sw, .seq, .seqCnt] s t := by
  obtain ⟨-, ⟨-, rfl⟩ | ⟨-, hgo⟩⟩ := arbitrate_cases harb
  · exact (Frame.emit.trans .writeDuty).mono (by decide)
  · exact (Frame.emit.trans .resetDutyFor).trans (.go hgo)

/-! ### The services -/

protected theorem edgeRise : Frame [.pulseStart, .wdCnt] s (edgeRise s) :=
  (Frame.emit.trans .writePulseStart).trans .writeWdCnt

protected theorem decodeWidth {e : Nat} : Frame [.targetState, .targetPower] s (decodeWidth e s) := by
  obtain ⟨-, heq⟩ | ⟨-, heq⟩ := decodeWidth_cases s e <;> rw [heq]
  · exact Frame.writeTargetState.trans .writeTargetPower
  · exact Frame.emit.mono (by decide)

protected theorem edgeFall : Frame [.targetState, .targetPower] s (edgeFall s) := Frame.emit.trans .decodeWidth

protected theorem edgeService : Frame Reg.all s (edgeService s) := by
  obtain ⟨-, e⟩ | ⟨-, e⟩ := edgeService_cases s <;> rw [e]
  · exact (Frame.clearPend.trans .edgeRise).all
  · exact (Frame.clearPend.trans .edgeFall).all

protected theorem watchdog : Frame [.wdCnt, .targetState] s (watchdog s) := by
  obtain ⟨-, -, e⟩ | ⟨-, e⟩ | ⟨-, -, e⟩ := watchdog_cases s <;> rw [e]
  · exact (Frame.writeTargetState.trans .emit).mono (by decide)
  · exact Frame.writeWdCnt.mono (by decide)
  · exact .refl

protected theorem tickService : Frame [.wdCnt, .targetState, .pend] s (tickService s) :=
  ((Frame.clearPend.trans .emit).trans .watchdog).mono (by decide)

protected theorem highSideOn : Frame [.sw] s (highSideOn s) := by
  obtain ⟨-, -, e⟩ | ⟨-, -, e⟩ | ⟨-, e⟩ := highSideOn_cases s <;> rw [e]
  · exact .switchOn
  · exact .switchOn
  · exact .refl

protected theorem pwmStartService : Frame [.sw, .pend] s (pwmStartService s) :=
  ((Frame.clearPend.trans .emit).trans .highSideOn).mono (by decide)

protected theorem highSidesOff : Frame [.sw] s (highSidesOff s) := by
  obtain ⟨-, -, e⟩ | ⟨-, e⟩ := highSidesOff_cases s <;> rw [e]
  · exact Frame.switchOff.trans_same .switchOff
  · exact .refl

protected theorem pwmMatchService : Frame [.sw, .pend] s (pwmMatchService s) :=
  ((Frame.clearPend.trans .emit).trans .highSidesOff).mono (by decide)

protected theorem serviceIf {service : State → State} (hservice : Frame rs s (service s)) :
    Frame rs s (serviceIf k service s) := by
  obtain ⟨-, e⟩ | ⟨-, e⟩ := serviceIf_cases s k service <;> rw [e]
  · exact hservice
  · exact .refl

protected theorem serviceEvents : Frame Reg.all s (serviceEvents s) :=
  (((Frame.serviceIf .edgeService).trans (.serviceIf .tickService)).trans
    (.serviceIf .pwmStartService)).trans (.serviceIf .pwmMatchService) |>.all

/-! ### The cycle and RESET -/

protected theorem sampleInput {n : Nat} : Frame [.rcPrev] s (sampleInput n s) :=
  (Frame.emitAt.trans .setEvent).trans .writeRcPrev

protected theorem advanceTime : Frame [.time] s (advanceTime s) :=
  (Frame.emitAt.trans .writeTime).trans .setEvent

protected theorem pwmCntUp : Frame [.pwmCnt] s (pwmCntUp s) := by
  obtain ⟨-, e⟩ | ⟨-, e⟩ := pwmCntUp_cases s <;> rw [e]
  · exact .writePwmCnt
  · exact Frame.takeFree.trans .writePwmCnt

protected theorem countPwm : Frame [.dutySh, .pwmCnt] s (countPwm s) := by
  obtain ⟨-, e⟩ | ⟨-, e⟩ := countPwm_cases s <;> rw [e]
  · exact ((Frame.writePwmCnt.trans .writeDutySh).trans .setEvent).mono (by decide)
  · exact (Frame.pwmCntUp.trans .setEvent).mono (by decide)

protected theorem advancePwm : Frame [.dutySh, .pwmCnt] s (advancePwm s) :=
  (Frame.emit.trans .countPwm).trans .setEvent

protected theorem latchSource : Frame [.pend] s (latchSource k s) := by
  obtain ⟨-, e⟩ | ⟨-, -, e⟩ | ⟨-, -, e⟩ := latchSource_cases s k <;> rw [e]
  · exact .refl
  · exact .setPend
  · exact Frame.emit.trans .setPend

protected theorem latchEvents : Frame [.pend] s (latchEvents s) :=
  (((Frame.emit.trans .latchSource).trans_same .latchSource).trans_same .latchSource).trans_same .latchSource

protected theorem cycleFront : Frame Reg.all s (cycleFront s) :=
  (((((Frame.beginPeriod.trans .emitAt).trans .sampleInput).trans .advanceTime).trans .advancePwm).trans .latchEvents).all

protected theorem cycleSeq (hseq : cycleSeq s = .next t) : Frame Reg.all s t := by
  unfold cycleSeq at hseq
  split at hseq
  · exact (Frame.seqStep hseq).all
  · exact Frame.refl.of_next hseq

protected theorem cycleIdle (hidle : cycleIdle s = .next t) : Frame Reg.all s t := by
  unfold cycleIdle at hidle
  split at hidle
  · exact Frame.refl.of_next hidle
  · exact (Frame.serviceEvents.trans (.arbitrate hidle)).all

protected theorem runCycle (hrun : runCycle s = .next t) : Frame Reg.all s t := by
  obtain ⟨u, v, hseq, hidle, rfl⟩ := runCycle_cases hrun
  exact (((Frame.cycleFront.trans (.cycleSeq hseq)).trans (.cycleIdle hidle)).trans .endCycle).all

protected theorem runCycles {n : Nat} (hrun : runCycles n s = .next t) : Frame Reg.all s t := by
  induction n generalizing s with
  | zero => exact Frame.refl.of_next hrun
  | succ n ih =>
    rw [runCycles_succ, andThen_eq_next] at hrun
    obtain ⟨u, hu, hrest⟩ := hrun
    exact (Frame.runCycle hu).trans_same (ih hrest)

protected theorem resetBlock : Frame Reg.all s (resetBlock s) where
  read r hr := absurd r.mem_all hr
  started _ := rfl
  trace := List.suffix_cons _ _

/-! ### Every instruction -/

/-- Every instruction writes registers of its row of the access matrix only (R38). STIM RUN is left out, since it drives
`rc_in` before its cycles; for those there is `Frame.runCycles`. -/
protected theorem exec (hexec : exec i s = .next t) (hi : ∀ l c, i ≠ .stimRun l c) : Frame (mayWrite i) s t := by
  cases i with
  | swOffFh | swOffFl | swOffBh | swOffBl => exact Frame.switchOff.of_next hexec
  | swOnFh | swOnFl | swOnBh | swOnBl => exact Frame.switchOn.of_next hexec
  | edgeRise => exact (Frame.edgeRise.of_next hexec).mono (by decide)
  | edgeFall => exact (Frame.edgeFall.of_next hexec).mono (by decide)
  | tick => exact Frame.tickService.of_next hexec
  | pwmStart => exact Frame.pwmStartService.of_next hexec
  | pwmMatch => exact Frame.pwmMatchService.of_next hexec
  | arb => exact .arbitrate hexec
  | goFwd => exact .go (g := .fwd) hexec
  | goBwd => exact .go (g := .bwd) hexec
  | goBrk => exact .go (g := .brake) hexec
  | sample => exact Frame.sampleInput.of_next hexec
  | tbAdv => exact Frame.advanceTime.of_next hexec
  | pwmAdv => exact Frame.advancePwm.of_next hexec
  | latch => exact Frame.latchEvents.of_next hexec
  | seqStep => exact .seqStep hexec
  | cycle => exact .runCycle hexec
  | reset | stimReset => exact Frame.resetBlock.of_next hexec
  | condDiscard | condWdForce | condCoalescedEdge | condCoalescedTick | condCoalescedStart | condCoalescedMatch =>
    exact Frame.emit.of_next hexec
  | condFault => exact (Frame.emit.trans .takeFree).of_next hexec
  | stimRun level count => exact absurd rfl (hi level count)

/-- What an instruction that answers a next state may change: STIM RUN what its cycles do from the state with `rc_in`
driven (R90), any other the registers of its row (R38). -/
theorem exec_cases (hexec : exec i s = .next t) :
    (∃ level count, i = .stimRun level count ∧ Frame Reg.all (driveRc level s) t) ∨
    ((∀ level count, i ≠ .stimRun level count) ∧ Frame (mayWrite i) s t) := by
  by_cases hstim : ∃ level count, i = .stimRun level count
  · obtain ⟨level, count, rfl⟩ := hstim
    exact .inl ⟨level, count, rfl, .runCycles hexec⟩
  · have hother : ∀ level count, i ≠ .stimRun level count := fun level count h => hstim ⟨level, count, h⟩
    exact .inr ⟨hother, .exec hexec hother⟩

/-- The trace after an operation is some newer records before those already there (R94). -/
theorem exists_newer (h : Frame rs s t) : ∃ newer, t.trace = newer ++ s.trace :=
  let ⟨newer, heq⟩ := h.trace
  ⟨newer, heq.symm⟩

end State.Frame

/-- Settles O54: each instruction's frame is its row of the access matrix; STIM RUN has no row, and every register is among
those it may write. -/
theorem accessMatrixBoundsEveryWrite : Obligations.AccessMatrixBoundsEveryWrite := by
  intro i s t r hexec hr
  obtain ⟨level, count, rfl, -⟩ | ⟨-, hframe⟩ := State.Frame.exec_cases hexec
  · exact absurd r.mem_all hr
  · exact hframe.read r hr

/-- Settles O55: all of it is in the frame of the instruction; STIM RUN's begins at the state with `rc_in` driven, which has
every other field of `s`. -/
theorem noInstructionChangesConfigurationOrPastTrace :
    Obligations.NoInstructionChangesConfigurationOrPastTrace := by
  intro i s t hexec
  obtain ⟨level, count, rfl, hframe⟩ | ⟨-, hframe⟩ := State.Frame.exec_cases hexec
  · exact ⟨hframe.cfg, hframe.ops, hframe.stims, hframe.started, hframe.exists_newer,
      fun hne => absurd rfl (hne level count)⟩
  · exact ⟨hframe.cfg, hframe.ops, hframe.stims, hframe.started, hframe.exists_newer, fun _ => hframe.rcIn⟩

end Sys2Proof.Machine
end

section
/-! PROOFS. The encodings of the two streams (spec/30_encoding.md R81 to R91): decoding and encoding invert each other. -/

namespace Sys2Proof

variable {w : OpWord} {i : Instr}

/-! ### Operation words -/

/-- The decoder is a full match against the rows of the table (R87). -/
theorem mem_opTable_of_decodeOp (h : decodeOp w = .ok i) : (w, i) ∈ opTable := by
  unfold decodeOp at h
  split at h
  case h_1 row hfind =>
    obtain rfl := Except.ok.inj h
    obtain rfl : row.1 = w := by simpa using List.find?_some hfind
    exact List.mem_of_find?_eq_some hfind
  case h_2 => exact nomatch h

/-- Every row of the table holds the word that the fields of its format build (R81 to R86). -/
theorem encode_of_mem_opTable : ∀ row ∈ opTable, row.2.wf = true ∧ encode row.2 = .op row.1 := by decide

theorem decodeOp_of_encode (h : encode i = .op w) : decodeOp w = .ok i := by
  cases i with
  | stimReset | stimRun => exact nomatch h
  | _ => exact StreamWord.op.inj h ▸ rfl

theorem decodeOp_eq_ok_iff : decodeOp w = .ok i ↔ i.wf = true ∧ encode i = .op w :=
  ⟨fun h => encode_of_mem_opTable _ (mem_opTable_of_decodeOp h), fun h => decodeOp_of_encode h.2⟩

/-! ### Stimulus words -/

variable {x : StimWord} {level : Bool} {count : BitVec 31}

/-- COUNT is the low 31 bits of the word, LEVEL the bit above them (R90). -/
theorem getLsbD_stimWord (j : Nat) :
    (stimWord level count).getLsbD j = if j < 31 then count.getLsbD j else (BitVec.ofBool level).getLsbD (j - 31) :=
  BitVec.getLsbD_append

theorem stimLevel_stimWord : stimLevel (stimWord level count) = level :=
  (getLsbD_stimWord 31).trans (by simp)

theorem stimCount_stimWord : stimCount (stimWord level count) = count :=
  BitVec.eq_of_getLsbD_eq fun j hj => by simp [stimCount, getLsbD_stimWord, hj]

theorem stimWord_stimLevel_stimCount (x : StimWord) : stimWord (stimLevel x) (stimCount x) = x := by
  refine BitVec.eq_of_getLsbD_eq fun j hj => ?_
  rw [getLsbD_stimWord]
  by_cases hlow : j < 31
  · simp [stimCount, hlow]
  · obtain rfl : j = 31 := by omega
    simp [stimLevel]

theorem stimCountOk_iff : stimCountOk count = true ↔ count ≠ 0 := by simp [stimCountOk]

theorem decodeStim_stimWord_of_ne_zero (h : count ≠ 0) :
    decodeStim (stimWord level count) = .ok (.stimRun level count) := by
  simp [decodeStim, stimLevel_stimWord, stimCount_stimWord, stimCountOk_iff.mpr h]

theorem decodeStim_stimWord_false_zero : decodeStim (stimWord false 0) = .ok .stimReset := by decide

theorem decodeStim_stimWord_true_zero : decodeStim (stimWord true 0) = .error .reservedStimWord := by decide

theorem decodeStim_eq_ok_iff : decodeStim x = .ok i ↔ i.wf = true ∧ encode i = .stim x := by
  constructor
  · rw [← stimWord_stimLevel_stimCount x]
    generalize stimLevel x = level, stimCount x = count
    intro h
    by_cases hcount : count = 0
    · subst hcount
      cases level with
      | false => exact Except.ok.inj (decodeStim_stimWord_false_zero.symm.trans h) ▸ ⟨rfl, rfl⟩
      | true => exact nomatch decodeStim_stimWord_true_zero.symm.trans h
    · obtain rfl := Except.ok.inj ((decodeStim_stimWord_of_ne_zero hcount).symm.trans h)
      exact ⟨stimCountOk_iff.mpr hcount, rfl⟩
  · rintro ⟨hwf, henc⟩
    cases i with
    | stimReset => exact StreamWord.stim.inj henc ▸ decodeStim_stimWord_false_zero
    | stimRun level count =>
      exact StreamWord.stim.inj henc ▸ decodeStim_stimWord_of_ne_zero (stimCountOk_iff.mp hwf)
    | _ => exact nomatch henc

/-- Settles O2: stream by stream, through the rows of the table for operation words and the two fields of a stimulus
word. -/
theorem decodesExactlyWhatEncodes : Obligations.DecodesExactlyWhatEncodes := by
  intro w i
  cases w with
  | op w => exact decodeOp_eq_ok_iff
  | stim x => exact decodeStim_eq_ok_iff

end Sys2Proof
end

section
/-! PROOFS. What a step does with the words in its two queues (R80, R89 to R91), and the words of the vectors. -/

namespace Sys2Proof.Machine

/-- Settles O1: each word is closed, and the decoder computes its row. -/
theorem writtenWordsDecodeToTheirRows : Obligations.WrittenWordsDecodeToTheirRows := by
  unfold Obligations.WrittenWordsDecodeToTheirRows
  decide

/-- Settles O5: each program is closed, and the assembler computes its words. -/
theorem assemblyGivesTheVectorsWords : Obligations.AssemblyGivesTheVectorsWords := by
  unfold Obligations.AssemblyGivesTheVectorsWords
  decide

variable {s : State} {i : Instr}

/-! ### Fetching from a queue -/

section Fetch

variable {r : OpRequest} {rest : List OpRequest} {w : StimWord} {ws : List StimWord}

theorem fetch_of_ops (hops : s.ops = r :: rest) : fetch s = fetchOp r rest s := by simp [fetch, hops]

theorem fetch_of_stims (hops : s.ops = []) (hstims : s.stims = w :: ws) : fetch s = fetchStim w ws s := by
  simp [fetch, hops, hstims]

theorem fetchOp_of_decodeOp (h : decodeOp r.word = .ok i) :
    fetchOp r rest s = .instr i { s with ops := rest, rcIn := r.rc } := by
  simp [fetchOp, h]

theorem fetchOp_of_reserved (h : (decodeOp r.word).toOption = none) :
    fetchOp r rest s = .reservedOp { s with ops := rest, rcIn := r.rc } := by
  cases hd : decodeOp r.word with
  | ok i => simp [hd, Except.toOption] at h
  | error e => simp [fetchOp, hd]

theorem fetchStim_of_decodeStim (h : decodeStim w = .ok i) : fetchStim w ws s = .instr i { s with stims := ws } := by
  simp [fetchStim, h]

end Fetch

/-! ### Operation words -/

theorem decodeOp_toOption_eq_none_iff (w : OpWord) :
    (decodeOp w).toOption = none ↔ ∀ row ∈ opTable, row.1 ≠ w := by
  unfold decodeOp
  cases hfind : opTable.find? fun row => row.1 == w with
  | none => exact iff_of_true rfl (by simpa only [List.find?_eq_none, beq_iff_eq] using hfind)
  | some row =>
    have hword : row.1 = w := by simpa only [beq_iff_eq] using List.find?_some hfind
    exact iff_of_false nofun fun hne => hne row (List.mem_of_find?_eq_some hfind) hword

/-- The ranges of R89 are the complement of the words in the table. -/
theorem inReservedRange_eq_all : ∀ w : OpWord, inReservedRange w = opTable.all fun row => row.1.toNat != w.toNat := by
  decide

theorem reserved_iff (w : OpWord) : (decodeOp w).toOption = none ↔ inReservedRange w = true := by
  simp only [decodeOp_toOption_eq_none_iff, inReservedRange_eq_all, List.all_eq_true, bne_iff_ne, ne_eq, BitVec.toNat_inj]

/-- A step that passes the two checks raises a fault on the reserved word it fetches (R89). -/
theorem step_of_fetch_reservedOp {u : State} (hc : s.cfg.wf = true) (hs : stimsOk s.stims = true)
    (hf : fetch s = .reservedOp u) (hu : u.started = true) : step s = raise .reservedWord u := by
  simp [step, hc, hs, hf, hu]

/-- Settles O3: the ranges are the words no row of the table has; such a word is fetched as reserved, and the step raises
its fault in the state with the word taken off the queue. -/
theorem reservedOperationWordsFault : Obligations.ReservedOperationWordsFault := by
  refine ⟨reserved_iff, fun s r rest hcfg hstims hstarted hops hreserved => ?_⟩
  have hfetch : fetch s = .reservedOp { s with ops := rest, rcIn := r.rc } :=
    (fetch_of_ops hops).trans (fetchOp_of_reserved ((reserved_iff _).mpr hreserved))
  exact step_of_fetch_reservedOp hcfg hstims hfetch hstarted

theorem mayPerform_of_started (h : s.started = true) : mayPerform i s = true := by simp [mayPerform, h]

theorem step_of_ops {r : OpRequest} {rest : List OpRequest} (hcfg : s.cfg.wf = true) (hstims : stimsOk s.stims = true)
    (hstarted : s.started = true) (hops : s.ops = r :: rest) (hdecode : decodeOp r.word = .ok i) :
    step s = exec i { s with ops := rest, rcIn := r.rc } :=
  step_of_fetch hcfg hstims ((fetch_of_ops hops).trans (fetchOp_of_decodeOp hdecode)) (mayPerform_of_started hstarted)

/-! ### Stimulus words -/

variable {w : StimWord} {ws : List StimWord}

@[simp] theorem stimsOk_cons : stimsOk (w :: ws) = true ↔ w ≠ 0x80000000 ∧ stimsOk ws = true := by simp [stimsOk]

theorem stimsOk_eq_false_iff : stimsOk ws = false ↔ 0x80000000 ∈ ws := by simp [stimsOk]

theorem step_of_reserved_stimulus (hcfg : s.cfg.wf = true) (hmem : 0x80000000 ∈ s.stims) :
    step s = .refused .reservedStimulus := by
  simp [step, hcfg, stimsOk_eq_false_iff.mpr hmem]

/-- RESET may be performed before the first RESET too (R46). -/
theorem mayPerform_of_isReset (h : isReset i = true) : mayPerform i s = true := by simp [mayPerform, h]

/-- Settles O4: the word 0 decodes to the stimulus RESET, which is performed as RESET is; the check of the program stands
before the fetch. -/
theorem zeroStimulusResetsAndReservedStimulusIsRefused :
    Obligations.ZeroStimulusResetsAndReservedStimulusIsRefused := by
  refine ⟨fun s rest hcfg hops hstims hrest => ?_, fun s => step_of_reserved_stimulus⟩
  have hok : stimsOk s.stims = true := by simp [hstims, hrest]
  have hfetch : fetch s = .instr .stimReset { s with stims := rest } :=
    (fetch_of_stims hops hstims).trans (fetchStim_of_decodeStim decodeStim_stimWord_false_zero)
  calc step s = exec .stimReset { s with stims := rest } := step_of_fetch hcfg hok hfetch (mayPerform_of_isReset rfl)
    _ = exec .reset { s with stims := rest } := rfl

theorem step_of_stims (hcfg : s.cfg.wf = true) (hok : stimsOk s.stims = true) (hstarted : s.started = true)
    (hops : s.ops = []) (hstims : s.stims = w :: ws) (hdecode : decodeStim w = .ok i) :
    step s = exec i { s with stims := ws } :=
  step_of_fetch hcfg hok ((fetch_of_stims hops hstims).trans (fetchStim_of_decodeStim hdecode))
    (mayPerform_of_started hstarted)

theorem ne_reserved_of_decodeStim (h : decodeStim w = .ok i) : w ≠ 0x80000000 := by
  rintro rfl
  exact nomatch decodeStim_stimWord_true_zero.symm.trans h

/-! ### A word loaded in front of the queues -/

theorem decodeTableWord_op {n : Nat} : decodeTableWord 8 n = some i ↔ decodeOp (BitVec.ofNat 8 n) = .ok i := by
  change (decodeOp (BitVec.ofNat 8 n)).toOption = some i ↔ _
  cases decodeOp (BitVec.ofNat 8 n) <;> simp [Except.toOption]

theorem decodeTableWord_stim {n : Nat} : decodeTableWord 32 n = some i ↔ decodeStim (BitVec.ofNat 32 n) = .ok i := by
  change (decodeStim (BitVec.ofNat 32 n)).toOption = some i ↔ _
  cases decodeStim (BitVec.ofNat 32 n) <;> simp [Except.toOption]

theorem withFetchWord_op (n : Nat) :
    s.withFetchWord 8 n = { s with ops := ⟨BitVec.ofNat 8 n, s.rcIn⟩ :: s.ops } := rfl

theorem withFetchWord_stim (n : Nat) :
    s.withFetchWord 32 n = { s with ops := [], stims := BitVec.ofNat 32 n :: s.stims } := rfl

/-- Settles O7: a step takes its word from the operation queue, else from the stimulus queue; a word loaded by
`withFetchWord` stands first in its queue. -/
theorem stepRunsTheDecodedInstruction : Obligations.StepRunsTheDecodedInstruction := by
  refine ⟨fun s r rest i => step_of_ops, fun s w rest i => step_of_stims, fun s n i hcfg hstims hstarted => ⟨?_, ?_⟩⟩
  · intro hdecode
    rw [withFetchWord_op]
    exact step_of_ops (r := ⟨BitVec.ofNat 8 n, s.rcIn⟩) hcfg hstims hstarted rfl (decodeTableWord_op.mp hdecode)
  · intro hdecode
    have hstim := decodeTableWord_stim.mp hdecode
    have hok : stimsOk (BitVec.ofNat 32 n :: s.stims) = true :=
      stimsOk_cons.mpr ⟨ne_reserved_of_decodeStim hstim, hstims⟩
    rw [withFetchWord_stim]
    exact step_of_stims hcfg hok hstarted rfl rfl hstim

end Sys2Proof.Machine
end

section
/-! PROOFS. The boundary invariant (R206) and the cycle: from every boundary state a cycle meets no fault and ends in a
boundary state; a stimulus word is such cycles in a row (R90). -/

namespace Sys2Proof

theorem Config.Params.Rule12.dead_pos {c : Config.Params} (h : c.Rule12) : 1 ≤ c.dead := by
  obtain ⟨-, ⟨hdead, -⟩, -⟩ := h
  exact hdead

theorem Config.Params.Rule12.settle_pos {c : Config.Params} (h : c.Rule12) : 1 ≤ c.settle := by
  obtain ⟨-, ⟨-, -, hsettle, -⟩, -⟩ := h
  exact hsettle

theorem Config.Params.Rule12.pwmPeriod_le {c : Config.Params} (h : c.Rule12) : c.pwmPeriod ≤ 2 ^ 8 := by
  obtain ⟨-, -, -, -, -, -, -, hperiod⟩ := h
  exact hperiod

end Sys2Proof

namespace Sys2Proof.Machine

variable {s t : State} {rs : List Reg} {g : GoTarget} {k : EventSource} {x : SwitchId} {m target : MotorState}
  {phase : Phase} {w : Switches}

/-! ### The fields behind a register that a frame keeps -/

theorem MotorState.code_injective : Function.Injective MotorState.code := by
  intro m m' h
  cases m <;> cases m' <;> simp_all [MotorState.code]

theorem Phase.code_injective : Function.Injective Phase.code := by
  intro q q' h
  cases q <;> cases q' <;> simp_all [Phase.code]

theorem boolToNat_injective : Function.Injective Bool.toNat := by decide

theorem nibble_inj {a0 a1 a2 a3 b0 b1 b2 b3 : Bool} (h : nibble a0 a1 a2 a3 = nibble b0 b1 b2 b3) :
    a0 = b0 ∧ a1 = b1 ∧ a2 = b2 ∧ a3 = b3 := by
  have := a0.toNat_lt; have := a1.toNat_lt; have := a2.toNat_lt; have := a3.toNat_lt
  have := b0.toNat_lt; have := b1.toNat_lt; have := b2.toNat_lt; have := b3.toNat_lt
  simp only [nibble] at h
  refine ⟨?_, ?_, ?_, ?_⟩ <;> exact boolToNat_injective (by omega)

namespace State.Frame

theorem time_eq (h : Frame rs s t) (hr : .time ∉ rs := by decide) : t.time = s.time := h.read .time hr

theorem motorState_eq (h : Frame rs s t) (hr : .motorState ∉ rs := by decide) : t.motorState = s.motorState :=
  MotorState.code_injective (h.read .motorState hr)

theorem pwmCnt_eq (h : Frame rs s t) (hr : .pwmCnt ∉ rs := by decide) : t.pwmCnt = s.pwmCnt := h.read .pwmCnt hr

theorem sw_eq (h : Frame rs s t) (hr : .sw ∉ rs := by decide) : t.sw = s.sw := by
  obtain ⟨hfh, hfl, hbh, hbl⟩ := nibble_inj (h.read .sw hr)
  exact Switches.mk.injEq .. ▸ ⟨hfh, hfl, hbh, hbl⟩

theorem rcPrev_eq (h : Frame rs s t) (hr : .rcPrev ∉ rs := by decide) : t.rcPrev = s.rcPrev :=
  boolToNat_injective (h.read .rcPrev hr)

theorem pend_eq (h : Frame rs s t) (hr : .pend ∉ rs := by decide) : t.pend = s.pend := by
  obtain ⟨hedge, htick, hstart, hmatch⟩ := nibble_inj (h.read .pend hr)
  exact Events.mk.injEq .. ▸ ⟨hedge, htick, hstart, hmatch⟩

theorem seq_eq (h : Frame rs s t) (hr : .seq ∉ rs := by decide) : t.phase = s.phase ∧ t.tgt = s.tgt := by
  have hread : t.phase.code + 4 * t.tgt.code = s.phase.code + 4 * s.tgt.code := h.read .seq hr
  have := t.phase.code_lt
  have := s.phase.code_lt
  exact ⟨Phase.code_injective (by omega), MotorState.code_injective (by omega)⟩

theorem seqCnt_eq (h : Frame rs s t) (hr : .seqCnt ∉ rs := by decide) : t.seqCnt = s.seqCnt := h.read .seqCnt hr

end State.Frame

/-! ### The rows of R206 -/

/-- The rows of an idle block, whatever SEQ.TGT holds. -/
theorem bankRow_idle :
    bankRow m .idle target w = true ↔
      (m = .uninit ∧ w = Switches.off) ∨ (m = .brake ∧ w = Switches.braking) ∨
      (m = .fwd ∧ (w = Switches.fwdLow ∨ w = Switches.fwdBoth)) ∨
      (m = .bwd ∧ (w = Switches.bwdLow ∨ w = Switches.bwdBoth)) := by
  cases m <;> simp [bankRow]

/-- The rows of a busy block: the two halves of a drive from Braking, the dead time of a braking from any other state, and
its settling. -/
theorem bankRow_busy (h : bankRow m phase target w = true) (hbusy : phase ≠ .idle) :
    (m = .brake ∧ (phase = .dead1 ∨ phase = .dead2) ∧
      ((target = .fwd ∧ w = Switches.fwdLow) ∨ (target = .bwd ∧ w = Switches.bwdLow))) ∨
    (phase = .dead1 ∧ target = .brake ∧
      ((m = .uninit ∧ w = Switches.off) ∨ (m = .fwd ∧ w = Switches.fwdLow) ∨ (m = .bwd ∧ w = Switches.bwdLow))) ∨
    (phase = .settle ∧ target = .brake ∧ m = .brake ∧ w = Switches.braking) := by
  unfold bankRow at h
  split at h <;> simp_all

/-- A row has a legal SEQ and keeps either leg from conducting on both sides (R35, R205). -/
theorem legal_of_bankRow (h : bankRow m phase target w = true) : seqLegal phase target = true ∧ w.legsOk = true := by
  by_cases hidle : phase = .idle
  · subst hidle
    obtain ⟨-, rfl⟩ | ⟨-, rfl⟩ | ⟨-, rfl | rfl⟩ | ⟨-, rfl | rfl⟩ := bankRow_idle.mp h <;> exact ⟨rfl, rfl⟩
  · obtain ⟨-, rfl | rfl, ⟨rfl, rfl⟩ | ⟨rfl, rfl⟩⟩ | ⟨rfl, rfl, ⟨-, rfl⟩ | ⟨-, rfl⟩ | ⟨-, rfl⟩⟩ | ⟨rfl, rfl, -, rfl⟩ :=
      bankRow_busy h hidle <;> exact ⟨rfl, rfl⟩

/-- In Forward, turning FH on keeps the row; in Backward BH (R206, R220). -/
theorem bankRow_fwd_highSideOn (h : bankRow .fwd .idle target w = true) :
    bankRow .fwd .idle target (w.set .fh true) = true := by
  obtain rfl | rfl : w = Switches.fwdLow ∨ w = Switches.fwdBoth := by simpa using bankRow_idle.mp h
  all_goals rfl

theorem bankRow_bwd_highSideOn (h : bankRow .bwd .idle target w = true) :
    bankRow .bwd .idle target (w.set .bh true) = true := by
  obtain rfl | rfl : w = Switches.bwdLow ∨ w = Switches.bwdBoth := by simpa using bankRow_idle.mp h
  all_goals rfl

/-- In no row does turning both high sides off lead out of the row (R206, R222). -/
theorem bankRow_highSidesOff (h : bankRow m .idle target w = true) :
    bankRow m .idle target (w.set .fh false) = true ∧
      bankRow m .idle target ((w.set .fh false).set .bh false) = true := by
  obtain ⟨rfl, rfl⟩ | ⟨rfl, rfl⟩ | ⟨rfl, rfl | rfl⟩ | ⟨rfl, rfl | rfl⟩ := bankRow_idle.mp h <;> exact ⟨rfl, rfl⟩

/-- Make-safe leads from the row of an idle block to that of the dead time (R192 to R194, R206); a drive starts from
Braking. -/
theorem bankRow_startTransition (h : bankRow m .idle target w = true) (hdrive : g ≠ .brake → m = .brake)
    (hne : m ≠ g.state) :
    bankRow m .dead1 g.state ((w.set g.makeSafe.1 false).set g.makeSafe.2 false) = true := by
  cases g with
  | fwd | bwd =>
    obtain rfl := hdrive nofun
    obtain rfl : w = Switches.braking := by simpa using bankRow_idle.mp h
    rfl
  | brake =>
    obtain ⟨rfl, rfl⟩ | ⟨rfl, rfl⟩ | ⟨rfl, rfl | rfl⟩ | ⟨rfl, rfl | rfl⟩ := bankRow_idle.mp h
    case inr.inl => exact absurd rfl hne
    all_goals rfl

/-! ### The invariant -/

/-- The cycles that a phase can last (R191, R197, R199). -/
def Phase.delay (c : Config.Params) : Phase → Nat
  | .idle => 0
  | .dead1 | .dead2 => c.dead
  | .settle => c.settle

/-- What the boundary invariant says of the sequencer, but for the flags: a row of R206, a counter that is running exactly
while the block is busy, and while it is idle TGT the state last committed. -/
structure State.Sequenced (s : State) : Prop where
  row : bankRow s.motorState s.phase s.tgt s.sw = true
  seqCnt_le : s.seqCnt ≤ s.phase.delay s.cfg
  seqCnt_pos : s.phase ≠ .idle → 1 ≤ s.seqCnt
  tgt_eq : s.phase = .idle → s.tgt = s.motorState

/-- The boundary invariant, with the bounds of every register in one field. -/
structure State.AtBoundary (s : State) : Prop where
  bounded : s.Bounded
  sequenced : s.Sequenced
  pwmCnt : s.pwmCnt < s.cfg.pwmPeriod
  pend : s.phase = .idle → s.pend = Events.none
  ev : s.ev = Events.none
  started : s.started = true

theorem State.seqOk_iff :
    s.seqOk = true ↔ s.seqCnt ≤ s.phase.delay s.cfg ∧ (s.phase ≠ .idle → 1 ≤ s.seqCnt) ∧
      (s.phase = .idle → s.tgt = s.motorState) ∧ (s.phase = .idle → s.pend = Events.none) := by
  unfold State.seqOk
  cases s.phase <;> simp [Phase.delay, and_assoc, and_comm]

theorem Phase.delay_lt {c : Config.Params} (h : c.Rule12) (q : Phase) : q.delay c < 2 ^ c.seqW := by
  obtain ⟨-, ⟨-, hdead, -, hsettle⟩, -⟩ := h
  cases q with
  | idle => exact Nat.two_pow_pos _
  | dead1 | dead2 => exact hdead
  | settle => exact hsettle

theorem Phase.delay_le_max (q : Phase) (c : Config.Params) : q.delay c ≤ max c.dead c.settle := by
  cases q <;> simp [Phase.delay]

theorem State.allLegal_iff : s.allLegal = true ↔ ∀ r : Reg, s.legal r = true := by
  simp [State.allLegal, Reg.mem_all]

theorem State.AtBoundary.legal (h : s.AtBoundary) (r : Reg) : s.legal r = true := by
  have hb := h.bounded
  have hrow := legal_of_bankRow h.sequenced.row
  cases r with
  | time => exact decide_eq_true hb.time
  | pulseStart => exact decide_eq_true hb.pulseStart
  | wdCnt => exact decide_eq_true hb.wdCnt
  | targetState => exact bne_iff_ne.mpr hb.targetState
  | targetPower => exact decide_eq_true (Nat.le_of_lt_succ hb.targetPower)
  | duty => exact decide_eq_true (Nat.le_of_lt_succ hb.duty)
  | dutySh => exact decide_eq_true (Nat.le_of_lt_succ hb.dutySh)
  | pwmCnt => exact decide_eq_true h.pwmCnt
  | sw => exact hrow.2
  | seq => exact hrow.1
  | seqCnt => exact decide_eq_true (h.sequenced.seqCnt_le.trans (s.phase.delay_le_max s.cfg))
  | motorState | rcPrev | pend => rfl

theorem State.boundary_iff : s.boundary = true ↔ s.AtBoundary := by
  simp only [State.boundary, Bool.and_eq_true, beq_iff_eq, State.allLegal_iff, State.seqOk_iff,
    Config.Params.wf_iff_rule12]
  constructor
  · rintro ⟨⟨⟨⟨⟨hcfg, hlegal⟩, hrow⟩, hle, hpos, htgt, hpend⟩, hev⟩, hstarted⟩
    have hpwm : s.pwmCnt < s.cfg.pwmPeriod := of_decide_eq_true (hlegal .pwmCnt)
    have hbounded : s.Bounded :=
      { rule12 := hcfg
        time := of_decide_eq_true (hlegal .time)
        pulseStart := of_decide_eq_true (hlegal .pulseStart)
        wdCnt := of_decide_eq_true (hlegal .wdCnt)
        targetState := bne_iff_ne.mp (hlegal .targetState)
        targetPower := Nat.lt_succ_of_le (of_decide_eq_true (hlegal .targetPower))
        duty := Nat.lt_succ_of_le (of_decide_eq_true (hlegal .duty))
        dutySh := Nat.lt_succ_of_le (of_decide_eq_true (hlegal .dutySh))
        pwmCnt := hpwm.trans_le hcfg.pwmPeriod_le
        seqCnt := hle.trans_lt (s.phase.delay_lt hcfg) }
    exact ⟨hbounded, ⟨hrow, hle, hpos, htgt⟩, hpwm, hpend, hev, hstarted⟩
  · exact fun h => ⟨⟨⟨⟨⟨h.bounded.rule12, h.legal⟩, h.sequenced.row⟩, h.sequenced.seqCnt_le, h.sequenced.seqCnt_pos,
      h.sequenced.tgt_eq, h.pend⟩, h.ev⟩, h.started⟩

/-- What leaves the sequencer's registers and the bank leaves the invariant. -/
theorem State.Sequenced.of_frame (h : s.Sequenced) (hf : State.Frame rs s t)
    (hr : ∀ r ∈ [Reg.motorState, .sw, .seq, .seqCnt], r ∉ rs := by decide) : t.Sequenced := by
  have hm := hf.motorState_eq (hr _ (by decide))
  have hsw := hf.sw_eq (hr _ (by decide))
  obtain ⟨hphase, htgt⟩ := hf.seq_eq (hr _ (by decide))
  have hcnt := hf.seqCnt_eq (hr _ (by decide))
  constructor <;> simp only [hm, hsw, hphase, htgt, hcnt, hf.cfg]
  exacts [h.row, h.seqCnt_le, h.seqCnt_pos, h.tgt_eq]

/-! ### The sequencer: each end of a delay leads from a row of R206 to the next -/

theorem sequenced_endFirstDead (hcfg : s.cfg.Rule12)
    (hrow : bankRow s.motorState .dead2 s.tgt (s.sw.set x true) = true) : (endFirstDead x s).Sequenced where
  row := by simpa [endFirstDead] using hrow
  seqCnt_le := Nat.le_refl s.cfg.dead
  seqCnt_pos _ := hcfg.dead_pos
  tgt_eq := nofun

theorem sequenced_commitDrive (hzero : s.seqCnt = 0) (hrow : bankRow s.tgt .idle s.tgt (s.sw.set x true) = true) :
    (commitDrive x s).Sequenced where
  row := by simpa [commitDrive] using hrow
  seqCnt_le := hzero.le
  seqCnt_pos hbusy := absurd rfl hbusy
  tgt_eq _ := rfl

theorem sequenced_commitBrake (hcfg : s.cfg.Rule12)
    (hrow : bankRow .brake .settle s.tgt ((s.sw.set .fl true).set .bl true) = true) : (commitBrake s).Sequenced where
  row := by simpa [commitBrake] using hrow
  seqCnt_le := Nat.le_refl s.cfg.settle
  seqCnt_pos _ := hcfg.settle_pos
  tgt_eq := nofun

theorem sequenced_endSettle (hzero : s.seqCnt = 0) (htgt : s.tgt = s.motorState)
    (hrow : bankRow s.motorState .idle s.tgt s.sw = true) : (endSettle s).Sequenced where
  row := hrow
  seqCnt_le := hzero.le
  seqCnt_pos hbusy := absurd rfl hbusy
  tgt_eq _ := htgt

theorem sequenced_startTransition (hcfg : s.cfg.Rule12)
    (hrow : bankRow s.motorState .dead1 g.state ((s.sw.set g.makeSafe.1 false).set g.makeSafe.2 false) = true) :
    (startTransition g s).Sequenced where
  row := by simpa [startTransition, makeSafe] using hrow
  seqCnt_le := Nat.le_refl s.cfg.dead
  seqCnt_pos _ := hcfg.dead_pos
  tgt_eq := nofun

/-- In a busy row the sequencer acts, and what it leaves is a row again (R197 to R200, R206). -/
theorem exists_seqAct (hcfg : s.cfg.Rule12) (hrow : bankRow s.motorState s.phase s.tgt s.sw = true)
    (hbusy : s.phase ≠ .idle) (hzero : s.seqCnt = 0) : ∃ t, seqAct s = .next t ∧ t.Sequenced := by
  obtain ⟨hm, hphase | hphase, ⟨htgt, hw⟩ | ⟨htgt, hw⟩⟩ | ⟨hphase, htgt, hfrom⟩ | ⟨hphase, htgt, hm, hw⟩ :=
    bankRow_busy hrow hbusy
  · exact ⟨endFirstDead .fl s, by simp [seqAct, hphase, htgt],
      sequenced_endFirstDead hcfg (by rw [hm, htgt, hw]; rfl)⟩
  · exact ⟨endFirstDead .bl s, by simp [seqAct, hphase, htgt],
      sequenced_endFirstDead hcfg (by rw [hm, htgt, hw]; rfl)⟩
  · exact ⟨commitDrive .fh s, by simp [seqAct, hphase, htgt], sequenced_commitDrive hzero (by rw [htgt, hw]; rfl)⟩
  · exact ⟨commitDrive .bh s, by simp [seqAct, hphase, htgt], sequenced_commitDrive hzero (by rw [htgt, hw]; rfl)⟩
  · refine ⟨commitBrake s, by simp [seqAct, hphase, htgt], sequenced_commitBrake hcfg ?_⟩
    obtain ⟨-, hw⟩ | ⟨-, hw⟩ | ⟨-, hw⟩ := hfrom <;> rw [htgt, hw] <;> rfl
  · exact ⟨endSettle s, by simp [seqAct, hphase, htgt],
      sequenced_endSettle hzero (htgt.trans hm.symm) (by rw [hm, htgt, hw]; rfl)⟩

theorem State.busy_iff : s.busy = true ↔ s.phase ≠ .idle := by simp [State.busy]

/-- SEQ_STEP in a busy state counts down, or acts at the end of the delay; no fault arises (R196, R201). -/
theorem State.Sequenced.exists_seqStep (h : s.Sequenced) (hcfg : s.cfg.Rule12) (hbusy : s.phase ≠ .idle) :
    ∃ t, seqStep s = .next t ∧ t.Sequenced := by
  have hpos := h.seqCnt_pos hbusy
  have hdown : seqCntDown (emit .seqStep none s) = writeSeqCnt (s.seqCnt - 1) (emit .seqStep none s) := by
    simp [seqCntDown, Nat.ne_of_gt hpos]
  unfold seqStep seqCheck
  rw [hdown, writeSeqCnt_seqCnt]
  split
  case isTrue hne =>
    have hle := (Nat.sub_le _ 1).trans h.seqCnt_le
    exact ⟨_, rfl, { h with seqCnt_le := hle, seqCnt_pos := fun _ => Nat.pos_of_ne_zero hne }⟩
  case isFalse hzero => exact exists_seqAct hcfg h.row hbusy (not_not.mp hzero)

theorem State.Sequenced.exists_cycleSeq (h : s.Sequenced) (hcfg : s.cfg.Rule12) :
    ∃ t, cycleSeq s = .next t ∧ t.Sequenced := by
  unfold cycleSeq
  split
  case isTrue hbusy => exact h.exists_seqStep hcfg (State.busy_iff.mp hbusy)
  case isFalse => exact ⟨s, rfl, h⟩

/-! ### The services of an idle cycle -/

/-- The invariant of an idle block, which the services keep and the arbiter starts from. -/
structure State.Resting (s : State) : Prop where
  sequenced : s.Sequenced
  idle : s.phase = .idle

/-- The edge service writes what either of its two operations does. -/
theorem edgeService_frame : State.Frame [.pend, .pulseStart, .wdCnt, .targetState, .targetPower] s (edgeService s) := by
  obtain ⟨-, e⟩ | ⟨-, e⟩ := edgeService_cases s <;> rw [e]
  · exact (State.Frame.clearPend.trans .edgeRise).mono (by decide)
  · exact (State.Frame.clearPend.trans .edgeFall).mono (by decide)

namespace State.Resting

theorem row (h : s.Resting) : bankRow s.motorState .idle s.tgt s.sw = true := h.idle ▸ h.sequenced.row

theorem of_frame (h : s.Resting) (hf : State.Frame rs s t)
    (hr : ∀ r ∈ [Reg.motorState, .sw, .seq, .seqCnt], r ∉ rs := by decide) : t.Resting :=
  ⟨h.sequenced.of_frame hf hr, (hf.seq_eq (hr _ (by decide))).1.trans h.idle⟩

protected theorem switchOn (h : s.Resting) (hrow : bankRow s.motorState .idle s.tgt (s.sw.set x true) = true) :
    (switchOn x s).Resting :=
  ⟨{ h.sequenced with row := h.idle.symm ▸ hrow }, h.idle⟩

protected theorem switchOff (h : s.Resting) (hrow : bankRow s.motorState .idle s.tgt (s.sw.set x false) = true) :
    (switchOff x s).Resting :=
  ⟨{ h.sequenced with row := h.idle.symm ▸ hrow }, h.idle⟩

protected theorem highSideOn (h : s.Resting) : (highSideOn s).Resting := by
  obtain ⟨-, hm, heq⟩ | ⟨-, hm, heq⟩ | ⟨-, heq⟩ := highSideOn_cases s <;> rw [heq]
  · exact h.switchOn (hm ▸ bankRow_fwd_highSideOn (hm ▸ h.row))
  · exact h.switchOn (hm ▸ bankRow_bwd_highSideOn (hm ▸ h.row))
  · exact h

protected theorem highSidesOff (h : s.Resting) : (highSidesOff s).Resting := by
  obtain ⟨-, -, heq⟩ | ⟨-, heq⟩ := highSidesOff_cases s <;> rw [heq]
  · obtain ⟨hfh, hboth⟩ := bankRow_highSidesOff h.row
    exact (h.switchOff hfh).switchOff hboth
  · exact h

protected theorem edgeService (h : s.Resting) : (edgeService s).Resting := h.of_frame edgeService_frame

protected theorem tickService (h : s.Resting) : (tickService s).Resting := h.of_frame .tickService

protected theorem pwmStartService (h : s.Resting) : (pwmStartService s).Resting :=
  (h.of_frame (Frame.clearPend.trans .emit)).highSideOn

protected theorem pwmMatchService (h : s.Resting) : (pwmMatchService s).Resting :=
  (h.of_frame (Frame.clearPend.trans .emit)).highSidesOff

protected theorem serviceIf {service : State → State} (h : s.Resting)
    (hservice : s.Resting → (service s).Resting) : (serviceIf k service s).Resting := by
  obtain ⟨-, e⟩ | ⟨-, e⟩ := serviceIf_cases s k service <;> rw [e]
  · exact hservice h
  · exact h

protected theorem serviceEvents (h : s.Resting) : (serviceEvents s).Resting :=
  (((h.serviceIf .edgeService).serviceIf .tickService).serviceIf .pwmStartService).serviceIf .pwmMatchService

end State.Resting

/-! ### SERVICE clears every flag -/

@[simp] theorem Events.set_get_self (e : Events) (k : EventSource) : e.set k (e.get k) = e := by cases k <;> rfl

/-- A service that clears its own flag only, run or not, leaves that flag clear and the others as they were (R254, R255). -/
theorem serviceIf_pend {service : State → State} (hservice : (service s).pend = s.pend.set k false) :
    (serviceIf k service s).pend = s.pend.set k false := by
  obtain ⟨-, e⟩ | ⟨hclear, e⟩ := serviceIf_cases s k service <;> rw [e]
  · exact hservice
  · rw [← hclear, Events.set_get_self]

theorem edgeService_pend : (edgeService s).pend = s.pend.set .edge false := by
  obtain ⟨-, e⟩ | ⟨-, e⟩ := edgeService_cases s <;> rw [e]
  · exact State.Frame.edgeRise.pend_eq
  · exact State.Frame.edgeFall.pend_eq

theorem tickService_pend : (tickService s).pend = s.pend.set .tick false := State.Frame.watchdog.pend_eq

theorem pwmStartService_pend : (pwmStartService s).pend = s.pend.set .start false := State.Frame.highSideOn.pend_eq

theorem pwmMatchService_pend : (pwmMatchService s).pend = s.pend.set .pwmMatch false := State.Frame.highSidesOff.pend_eq

theorem serviceEvents_pend : (serviceEvents s).pend = Events.none := by
  unfold serviceEvents
  rw [serviceIf_pend pwmMatchService_pend, serviceIf_pend pwmStartService_pend, serviceIf_pend tickService_pend,
    serviceIf_pend edgeService_pend]
  rfl

/-! ### The arbiter -/

theorem arbGoal_ne_brake (h : arbGoal target m ≠ .brake) : m = .brake := by
  unfold arbGoal at h
  split at h
  · rfl
  · rfl
  · exact absurd rfl h

/-- A GO in an idle row meets no fault, where a drive is asked for in Braking only (R191, R206). -/
theorem State.Resting.exists_go (h : s.Resting) (hcfg : s.cfg.Rule12) (hdrive : g ≠ .brake → s.motorState = .brake) :
    ∃ t, go g s = .next t ∧ t.Sequenced := by
  obtain ⟨hbusy, -⟩ | ⟨-, -, hgo⟩ | ⟨-, hne, hgo⟩ := go_outcomes s g
  · exact absurd h.idle hbusy
  · exact ⟨s, hgo, h.sequenced⟩
  · exact ⟨_, hgo, sequenced_startTransition hcfg (bankRow_startTransition h.row hdrive hne)⟩

theorem State.Resting.exists_arbDecide (h : s.Resting) (hcfg : s.cfg.Rule12) (htarget : s.targetState ≠ .uninit) :
    ∃ t, arbDecide s = .next t ∧ t.Sequenced := by
  unfold arbDecide
  rw [if_neg htarget]
  split
  · have hframe : State.Frame [.duty] s (resetDutyFor (arbGoal s.targetState s.motorState) s) := .resetDutyFor
    refine (h.of_frame hframe).exists_go (hframe.cfg ▸ hcfg) fun hg => ?_
    exact hframe.motorState_eq.trans (arbGoal_ne_brake hg)
  · exact ⟨_, rfl, h.sequenced.of_frame .writeDuty⟩

/-- ARB in an idle row meets no fault, where TARGET_STATE is legal (R25, R240). -/
theorem State.Resting.exists_arbitrate (h : s.Resting) (hcfg : s.cfg.Rule12) (htarget : s.targetState ≠ .uninit) :
    ∃ t, arbitrate s = .next t ∧ t.Sequenced :=
  (h.of_frame .emit).exists_arbDecide hcfg htarget

/-! ### The two halves of a cycle -/

/-- The half of a cycle after LATCH completes, and leaves no flag pending in an idle block (R120, R255). -/
theorem State.Sequenced.exists_cycleIdle (h : s.Sequenced) (hb : s.Bounded) :
    ∃ t, cycleIdle s = .next t ∧ t.Sequenced ∧ (t.phase = .idle → t.pend = Events.none) := by
  unfold cycleIdle
  split
  case isTrue hbusy => exact ⟨s, rfl, h, fun hidle => absurd hidle (State.busy_iff.mp hbusy)⟩
  case isFalse hidle =>
    have hserved : (serviceEvents s).Resting :=
      State.Resting.serviceEvents ⟨h, not_not.mp (mt State.busy_iff.mpr hidle)⟩
    have hbounded := hb.serviceEvents
    obtain ⟨t, harb, ht⟩ := hserved.exists_arbitrate hbounded.rule12 hbounded.targetState
    exact ⟨t, harb, ht, fun _ => (State.Frame.arbitrate harb).pend_eq.trans serviceEvents_pend⟩

/-- Up to LATCH a cycle leaves the sequencer's registers, the bank, the targets and the duty. -/
theorem cycleFront_frame : State.Frame [.time, .rcPrev, .dutySh, .pwmCnt, .pend] s (cycleFront s) :=
  (((((State.Frame.beginPeriod.trans .emitAt).trans .sampleInput).trans .advanceTime).trans .advancePwm).trans
    .latchEvents).mono (by decide)

theorem cycleSeq_frame (h : cycleSeq s = .next t) : State.Frame [.motorState, .sw, .seq, .seqCnt] s t := by
  unfold cycleSeq at h
  split at h
  · exact .seqStep h
  · exact State.Frame.refl.of_next h

theorem serviceEvents_frame :
    State.Frame [.pend, .pulseStart, .wdCnt, .targetState, .targetPower, .sw] s (serviceEvents s) :=
  ((((State.Frame.serviceIf edgeService_frame).trans (.serviceIf .tickService)).trans
    (.serviceIf .pwmStartService)).trans (.serviceIf .pwmMatchService)).mono (by decide)

theorem cycleIdle_frame (h : cycleIdle s = .next t) :
    State.Frame [.pend, .pulseStart, .wdCnt, .targetState, .targetPower, .sw, .duty, .seq, .seqCnt] s t := by
  unfold cycleIdle at h
  split at h
  · exact State.Frame.refl.of_next h
  · exact (serviceEvents_frame.trans (.arbitrate h)).mono (by decide)

theorem cycleFront_time : (cycleFront s).time = nextTime s := by
  unfold cycleFront
  rw [State.Frame.latchEvents.time_eq, State.Frame.advancePwm.time_eq]
  simp [advanceTime, sampleInput, nextTime]

theorem cycleFront_rcPrev : (cycleFront s).rcPrev = s.rcIn := by
  unfold cycleFront
  rw [State.Frame.latchEvents.rcPrev_eq, State.Frame.advancePwm.rcPrev_eq, State.Frame.advanceTime.rcPrev_eq]
  simp [sampleInput]

/-- PWM_CNT lies in a period that fits its 8 bits (R12, R125). -/
structure State.PwmInPeriod (s : State) : Prop where
  rule12 : s.cfg.Rule12
  lt : s.pwmCnt < s.cfg.pwmPeriod

namespace State.PwmInPeriod

theorem of_frame (h : s.PwmInPeriod) (hf : State.Frame rs s t) (hr : .pwmCnt ∉ rs := by decide) : t.PwmInPeriod :=
  ⟨hf.cfg.symm ▸ h.rule12, by rw [hf.pwmCnt_eq hr, hf.cfg]; exact h.lt⟩

protected theorem writePwmCnt {v : Nat} (h : s.PwmInPeriod) (hv : v < s.cfg.pwmPeriod) : (writePwmCnt v s).PwmInPeriod :=
  ⟨h.rule12, hv⟩

/-- Below the last count of the period the successor is a count of the period, and fits the register. -/
protected theorem countPwm (h : s.PwmInPeriod) : (countPwm s).PwmInPeriod := by
  have hlt := h.lt
  obtain ⟨-, -, -, -, -, -, hmin, hmax⟩ := h.rule12
  obtain ⟨-, e⟩ | ⟨hlast, e⟩ := countPwm_cases s <;> rw [e]
  · exact (h.writePwmCnt (by omega)).of_frame (Frame.writeDutySh.trans .setEvent)
  · obtain ⟨-, e⟩ | ⟨hwide, -⟩ := pwmCntUp_cases s
    · exact e ▸ (h.writePwmCnt (by omega)).of_frame .setEvent
    · omega

protected theorem advancePwm (h : s.PwmInPeriod) : (advancePwm s).PwmInPeriod :=
  (h.of_frame .emit).countPwm.of_frame .setEvent

protected theorem cycleFront (h : s.PwmInPeriod) : (cycleFront s).PwmInPeriod :=
  ((h.of_frame (((Frame.beginPeriod.trans .emitAt).trans .sampleInput).trans .advanceTime)).advancePwm).of_frame
    .latchEvents

end State.PwmInPeriod

/-! ### The cycle -/

/-- From a boundary state a cycle completes in a boundary state, with TIME one more and the level sampled (R120, R122, R123,
R206). -/
theorem State.AtBoundary.exists_runCycle (h : s.AtBoundary) :
    ∃ t, runCycle s = .next t ∧ t.AtBoundary ∧ t.time = nextTime s ∧ t.rcPrev = s.rcIn := by
  have hpwm : s.PwmInPeriod := ⟨h.bounded.rule12, h.pwmCnt⟩
  have hfront := h.bounded.cycleFront
  obtain ⟨u, hseq, hu⟩ := (h.sequenced.of_frame cycleFront_frame).exists_cycleSeq hfront.rule12
  obtain ⟨v, hidle, hv, hpend⟩ := hu.exists_cycleIdle (hfront.cycleSeq hseq)
  have hrun : runCycle s = .next (endCycle v) := by simp [runCycle, hseq, hidle]
  have hlater := (cycleSeq_frame hseq).trans (cycleIdle_frame hidle)
  refine ⟨endCycle v, hrun, ?_, hlater.time_eq.trans cycleFront_time, hlater.rcPrev_eq.trans cycleFront_rcPrev⟩
  exact
    { bounded := h.bounded.runCycle hrun
      sequenced := hv.of_frame .endCycle
      pwmCnt := (hpwm.cycleFront.of_frame (hlater.trans .endCycle)).lt
      pend := hpend
      ev := rfl
      started := (State.Frame.runCycle hrun).started h.started }

/-- From a boundary state `n` cycles complete in a boundary state, TIME `n` more (R90, R206). -/
theorem State.AtBoundary.exists_runCycles (n : Nat) (h : s.AtBoundary) :
    ∃ t, runCycles n s = .next t ∧ t.AtBoundary ∧ t.time = (s.time + n) % 2 ^ s.cfg.timeW ∧
      t.rcPrev = if n = 0 then s.rcPrev else s.rcIn := by
  induction n generalizing s with
  | zero => exact ⟨s, rfl, h, (Nat.mod_eq_of_lt h.bounded.time).symm, rfl⟩
  | succ n ih =>
    obtain ⟨u, hrun, hu, htime, hprev⟩ := h.exists_runCycle
    have hframe := State.Frame.runCycle hrun
    obtain ⟨t, hrest, ht, htime', hprev'⟩ := ih hu
    refine ⟨t, ?_, ht, ?_, ?_⟩
    · rw [runCycles_succ, hrun, andThen_next, hrest]
    · rw [htime', htime, hframe.cfg, nextTime, Nat.mod_add_mod, Nat.add_right_comm, Nat.add_assoc]
    · rw [hprev', hprev, hframe.rcIn, ite_self, if_neg n.succ_ne_zero]

/-! ### The stimulus words -/

/-- Settles O53: a stimulus word drives the level, which no clause of the boundary invariant reads, and runs COUNT cycles. -/
theorem stimulusRunCompletesFromABoundary : Obligations.StimulusRunCompletesFromABoundary := by
  intro s level count hs hcount
  have hdriven : (driveRc level s).AtBoundary := State.boundary_iff.mp hs
  obtain ⟨t, hrun, ht, htime, hprev⟩ := hdriven.exists_runCycles count.toNat
  have hpos : count.toNat ≠ 0 := by bv_omega
  exact ⟨t, hrun, State.boundary_iff.mpr ht, htime, hprev.trans (if_neg hpos), (State.Frame.runCycles hrun).cfg⟩

theorem andThen_congr {r : Result} {k k' : State → Result} (h : ∀ u, r = .next u → k u = k' u) :
    andThen r k = andThen r k' := by
  cases r with
  | next u => exact h u rfl
  | fault f => rfl
  | refused q => rfl

/-- Driving the level that `rc_in` has changes nothing. -/
theorem driveRc_self : driveRc s.rcIn s = s := rfl

/-- Settles O52: a cycle keeps the level of `rc_in`, so that the rest of the word finds it as it drives it. -/
theorem stimulusRunIsConsecutiveCycles : Obligations.StimulusRunIsConsecutiveCycles := by
  intro s level count
  refine ⟨fun hzero => hzero ▸ rfl, fun hcount => ?_⟩
  have hsucc : count.toNat = (count - 1).toNat + 1 := by bv_omega
  change runCycles count.toNat (driveRc level s) = andThen (runCycle (driveRc level s)) _
  rw [hsucc, runCycles_succ]
  refine andThen_congr fun u hrun => ?_
  have hlevel : u.rcIn = level := (State.Frame.runCycle hrun).rcIn
  change _ = runCycles (count - 1).toNat (driveRc level u)
  rw [← hlevel, driveRc_self]

end Sys2Proof.Machine
end

section
/-! PROOFS. The cycle (spec/40_cycle.md): the micro-operations that run in every cycle (R122 to R126), and how TIME and
PWM_CNT advance along a period of the modulator, a cycle, and a run over given input levels (R127, R227). -/

namespace Sys2Proof.Machine

variable {s t : State} {rs : List Reg} {i : Instr}

/-! ### SAMPLE and TB_ADV -/

/-- Settles O41: SAMPLE is that one update. -/
theorem sampleDetectsAChangeOfLevel : Obligations.SampleDetectsAChangeOfLevel := fun _ => rfl

/-- Settles O42: TB_ADV is that one update. -/
theorem timeBaseAdvancesAndTicks : Obligations.TimeBaseAdvancesAndTicks := fun _ => rfl

/-! ### PWM_ADV -/

/-- At the last count of the period PWM_ADV wraps and compares 0 with the duty it loads (R125). -/
theorem advancePwm_of_last (hlast : s.pwmCnt = s.cfg.pwmPeriod - 1) :
    advancePwm s = { s with
      pwmCnt := 0, dutySh := s.duty
      ev := { s.ev with start := true, pwmMatch := (0 == s.duty) }
      trace := ⟨s.time, 0x82, none⟩ :: s.trace } := by
  obtain ⟨-, e⟩ | ⟨hne, -⟩ := countPwm_cases (emit .pwmAdv none s)
  · rw [advancePwm, e]
    rfl
  · exact absurd hlast hne

/-- Before the last count of the period PWM_ADV counts up and compares with the duty loaded before (R125). -/
theorem advancePwm_of_ne_last (hne : s.pwmCnt ≠ s.cfg.pwmPeriod - 1) (hlt : s.pwmCnt < 255) :
    advancePwm s = { s with
      pwmCnt := s.pwmCnt + 1
      ev := { s.ev with start := false, pwmMatch := (s.pwmCnt + 1 == s.dutySh) }
      trace := ⟨s.time, 0x82, none⟩ :: s.trace } := by
  obtain ⟨hlast, -⟩ | ⟨-, e⟩ := countPwm_cases (emit .pwmAdv none s)
  · exact absurd hlast hne
  · obtain ⟨-, e'⟩ | ⟨hwide, -⟩ := pwmCntUp_cases (emit .pwmAdv none s)
    · rw [advancePwm, e, e']
      rfl
    · rw [emit_pwmCnt] at hwide
      omega

/-- Settles O25: the two cases of PWM_ADV; a period of any length is told by its last count. -/
theorem pwmAdvCountsAndCompares : Obligations.PwmAdvCountsAndCompares := fun _ _ =>
  ⟨fun hlast => congrArg _ (advancePwm_of_last hlast), fun hne hlt => congrArg _ (advancePwm_of_ne_last hne hlt)⟩

/-! ### LATCH -/

/-- LATCH for one source sets its flag where its event occurred, and records the occurrence that finds it set (R126,
R252). -/
theorem latchSource_eq (k : EventSource) (s : State) :
    latchSource k s = { s with
      pend := s.pend.set k (s.pend.get k || s.ev.get k)
      trace := (if s.ev.get k && s.pend.get k then [⟨s.time, recordWord k.coalesced, none⟩] else []) ++ s.trace } := by
  obtain ⟨hev, e⟩ | ⟨hev, hpend, e⟩ | ⟨hev, hpend, e⟩ := latchSource_cases s k <;> rw [e]
  · simp [hev]
  · simp [hev, hpend, setPend, writePend]
  · simp [hev, hpend, setPend, writePend, emit, emitAt]

/-- Settles O43: the four sources one after the other, each reading the flag and the event of its own only. -/
theorem latchSetsFlagsAndRecordsLostEvents : Obligations.LatchSetsFlagsAndRecordsLostEvents := by
  intro s
  change Host.Outcome.next (latchEvents s) = _
  simp only [latchEvents, latchSource_eq, List.append_assoc]
  rfl

/-! ### A period of the modulator -/

theorem andThen_next_right (r : Result) : andThen r .next = r := by
  cases r <;> rfl

theorem andThen_assoc (r : Result) (k k' : State → Result) :
    andThen (andThen r k) k' = andThen r fun u => andThen (k u) k' := by
  cases r <;> rfl

/-- An instruction performed once more, the one more at the end. -/
theorem repeatInstr_succ_last (n : Nat) (i : Instr) (s : State) :
    repeatInstr (n + 1) i s = andThen (repeatInstr n i s) (exec i) := by
  induction n generalizing s with
  | zero => exact andThen_next_right (exec i s)
  | succ n ih =>
    calc repeatInstr (n + 1 + 1) i s
      _ = andThen (exec i s) fun u => andThen (repeatInstr n i u) (exec i) := congrArg (andThen _) (funext ih)
      _ = andThen (repeatInstr (n + 1) i s) (exec i) := (andThen_assoc _ _ _).symm

/-- The n-th count after a wrap is n, compared with the duty loaded at the wrap, as long as the period lasts (R125). -/
theorem exists_repeatInstr_pwmAdv (hcfg : s.cfg.Rule12) (hlast : s.pwmCnt = s.cfg.pwmPeriod - 1) (n : Nat)
    (hn : n < s.cfg.pwmPeriod) :
    ∃ t, repeatInstr (n + 1) .pwmAdv s = .next t ∧ t.pwmCnt = n ∧ t.dutySh = s.duty ∧ t.cfg = s.cfg ∧
      t.ev.start = (n == 0) ∧ t.ev.pwmMatch = (n == s.duty) := by
  induction n with
  | zero =>
    refine ⟨advancePwm s, rfl, ?_⟩
    rw [advancePwm_of_last hlast]
    exact ⟨rfl, rfl, rfl, rfl, rfl⟩
  | succ n ih =>
    obtain ⟨u, hrun, hcnt, hduty, hucfg, -, -⟩ := ih (by omega)
    have hperiod := hcfg.pwmPeriod_le
    have hne : u.pwmCnt ≠ u.cfg.pwmPeriod - 1 := by rw [hcnt, hucfg]; omega
    have hstep := advancePwm_of_ne_last hne (by omega)
    rw [hcnt, hduty] at hstep
    refine ⟨advancePwm u, ?_, ?_⟩
    · rw [repeatInstr_succ_last, hrun]
      rfl
    · rw [hstep]
      exact ⟨rfl, rfl, hucfg, rfl, rfl⟩

/-- Settles O26: the n-th count of the period is n, so that 0 and the loaded duty are each met at most once. -/
theorem oneStartAndOneMatchPerPeriod : Obligations.OneStartAndOneMatchPerPeriod := by
  intro s n hwf hlast hn
  obtain ⟨t, hrun, hcnt, hduty, -, hstart, hmatch⟩ :=
    exists_repeatInstr_pwmAdv (s.cfg.wf_iff_rule12.mp hwf) hlast n hn
  exact ⟨t, hrun, hcnt, hduty, hstart, hmatch⟩

/-! ### PWM_CNT and DUTY_SH across a cycle -/

theorem State.Frame.duty_eq (h : Frame rs s t) (hr : .duty ∉ rs := by decide) : t.duty = s.duty := h.read .duty hr

theorem State.Frame.dutySh_eq (h : Frame rs s t) (hr : .dutySh ∉ rs := by decide) : t.dutySh = s.dutySh :=
  h.read .dutySh hr

/-- A cycle performs PWM_ADV, and no other part of it writes PWM_CNT or DUTY_SH or, before PWM_ADV, DUTY (R38, R120). -/
theorem runCycle_around_advancePwm (hrun : runCycle s = .next t) :
    ∃ u, State.Frame [.time, .rcPrev] s u ∧
      State.Frame [.motorState, .sw, .seq, .seqCnt, .pend, .pulseStart, .wdCnt, .targetState, .targetPower, .duty]
        (advancePwm u) t := by
  obtain ⟨v, w, hseq, hidle, rfl⟩ := runCycle_cases hrun
  have hbefore : State.Frame [.time, .rcPrev] s (advanceTime (sampleInput (nextTime s)
      (emitAt (nextTime s) .cycle (some s.rcIn.toNat) (beginPeriod s)))) :=
    ((State.Frame.beginPeriod.trans .emitAt).trans .sampleInput).trans .advanceTime |>.mono (by decide)
  exact ⟨_, hbefore, (((State.Frame.latchEvents.trans (cycleSeq_frame hseq)).trans (cycleIdle_frame hidle)).trans
    .endCycle).mono (by decide)⟩

theorem runCycle_pwm_of_last (hrun : runCycle s = .next t) (hlast : s.pwmCnt = s.cfg.pwmPeriod - 1) :
    t.pwmCnt = 0 ∧ t.dutySh = s.duty := by
  obtain ⟨u, hbefore, hafter⟩ := runCycle_around_advancePwm hrun
  have hulast : u.pwmCnt = u.cfg.pwmPeriod - 1 := by rw [hbefore.pwmCnt_eq, hbefore.cfg, hlast]
  rw [advancePwm_of_last hulast] at hafter
  exact ⟨hafter.pwmCnt_eq, hafter.dutySh_eq.trans hbefore.duty_eq⟩

theorem runCycle_pwm_of_ne_last (hrun : runCycle s = .next t) (hne : s.pwmCnt ≠ s.cfg.pwmPeriod - 1)
    (hlt : s.pwmCnt < 255) : t.pwmCnt = s.pwmCnt + 1 ∧ t.dutySh = s.dutySh := by
  obtain ⟨u, hbefore, hafter⟩ := runCycle_around_advancePwm hrun
  rw [← hbefore.pwmCnt_eq] at hne hlt ⊢
  rw [← hbefore.cfg] at hne
  rw [advancePwm_of_ne_last hne hlt] at hafter
  exact ⟨hafter.pwmCnt_eq, hafter.dutySh_eq.trans hbefore.dutySh_eq⟩

/-! ### The cycle from a boundary state -/

/-- At a boundary a count that is not the period's last has a successor in the register (R12, R125). -/
theorem State.AtBoundary.pwmCnt_lt_255 (h : s.AtBoundary) (hne : s.pwmCnt ≠ s.cfg.pwmPeriod - 1) : s.pwmCnt < 255 := by
  have hcnt := h.pwmCnt
  have hperiod := h.bounded.rule12.pwmPeriod_le
  omega

/-- Settles O60: the invariant lets the cycle complete; the counter then has the two cases of PWM_ADV. -/
theorem everyCycleAdvancesTimeAndPwmCount : Obligations.EveryCycleAdvancesTimeAndPwmCount := by
  intro s level hs
  have hdriven : (driveRc level s).AtBoundary := State.boundary_iff.mp hs
  obtain ⟨t, hrun, ht, htime, hprev⟩ := hdriven.exists_runCycle
  have hwrap := runCycle_pwm_of_last hrun
  have hcount := fun hne => runCycle_pwm_of_ne_last hrun hne (hdriven.pwmCnt_lt_255 hne)
  exact ⟨t, hrun, State.boundary_iff.mpr ht, htime, hprev, hwrap, hcount⟩

/-- One cycle at a given level in the arithmetic of the two counters (R123, R125). -/
theorem State.AtBoundary.exists_cycle_counts (h : s.AtBoundary) (level : Bool) :
    ∃ t, exec .cycle (driveRc level s) = .next t ∧ t.AtBoundary ∧ t.cfg = s.cfg ∧
      t.time = (s.time + 1) % 2 ^ s.cfg.timeW ∧ t.pwmCnt = (s.pwmCnt + 1) % s.cfg.pwmPeriod := by
  obtain ⟨t, hrun, ht, htime, -, hwrap, hcount⟩ :=
    everyCycleAdvancesTimeAndPwmCount s level (State.boundary_iff.mpr h)
  have hcfg : t.cfg = s.cfg := (State.Frame.runCycle hrun).cfg
  have hlt := h.pwmCnt
  refine ⟨t, hrun, State.boundary_iff.mp ht, hcfg, htime, ?_⟩
  by_cases hlast : s.pwmCnt = s.cfg.pwmPeriod - 1
  · rw [(hwrap hlast).1, show s.pwmCnt + 1 = s.cfg.pwmPeriod by omega, Nat.mod_self]
  · rw [(hcount hlast).1, Nat.mod_eq_of_lt (by omega)]

/-- From a boundary state a run over any levels completes, and TIME and PWM_CNT have counted its cycles (R127). -/
theorem State.AtBoundary.exists_runLevels (h : s.AtBoundary) (ls : List Bool) :
    ∃ t, runLevels ls s = .next t ∧ t.time = (s.time + ls.length) % 2 ^ s.cfg.timeW ∧
      t.pwmCnt = (s.pwmCnt + ls.length) % s.cfg.pwmPeriod := by
  induction ls generalizing s with
  | nil => exact ⟨s, rfl, (Nat.mod_eq_of_lt h.bounded.time).symm, (Nat.mod_eq_of_lt h.pwmCnt).symm⟩
  | cons level ls ih =>
    obtain ⟨u, hrun, hu, hcfg, htime, hcnt⟩ := h.exists_cycle_counts level
    obtain ⟨t, hrest, htime', hcnt'⟩ := ih hu
    refine ⟨t, ?_, ?_, ?_⟩
    · rw [runLevels, hrun, andThen_next, hrest]
    · rw [htime', htime, hcfg, Nat.mod_add_mod, List.length_cons, Nat.add_right_comm, Nat.add_assoc]
    · rw [hcnt', hcnt, hcfg, Nat.mod_add_mod, List.length_cons, Nat.add_right_comm, Nat.add_assoc]

/-! ### From RESET -/

theorem atBoundary_reset : State.reset.AtBoundary := State.boundary_iff.mp (by decide)

/-- Settles O49: the counts of a run from a boundary state, begun at RESET, where both are 0. -/
theorem timeAndPwmCountTheCyclesSinceReset : Obligations.TimeAndPwmCountTheCyclesSinceReset := by
  intro ls hlen
  obtain ⟨t, hrun, htime, hcnt⟩ := atBoundary_reset.exists_runLevels ls
  change t.time = (0 + ls.length) % 2 ^ 32 at htime
  change t.pwmCnt = (0 + ls.length) % 255 at hcnt
  rw [Nat.zero_add] at htime hcnt
  exact ⟨t, hrun, htime.trans (Nat.mod_eq_of_lt hlen), hcnt⟩

/-- Settles O44: the cycle evaluated at the reset state. -/
theorem firstCycleAfterResetStartsBraking : Obligations.FirstCycleAfterResetStartsBraking :=
  ⟨_, rfl, rfl, rfl, rfl, rfl, rfl, rfl, rfl⟩

end Sys2Proof.Machine
end

section
/-! PROOFS. A cycle against its operation words (R120, R121, R150, R255): the two differ in records only, because no
operation reads the trace (R94). -/

namespace Sys2Proof.Machine

variable {k : EventSource} {i : Instr} {g : GoTarget}

/-! ### Operations that do not read the trace -/

/-- A state without its trace. -/
def State.untraced (s : State) : State := { s with trace := [] }

/-- What an operation computes is, but for the records, the same whatever the trace held before. -/
def TraceBlind {α : Type} (erase : α → α) (f : State → α) : Prop := ∀ s, erase (f s.untraced) = erase (f s)

namespace TraceBlind

section
variable {α : Type} {erase : α → α}

/-- Two states that differ in their traces only are taken to the same outcome but for the records. -/
protected theorem congr {f : State → α} (hf : TraceBlind erase f) {s t : State} (h : s.untraced = t.untraced) :
    erase (f s) = erase (f t) := by
  rw [← hf s, h, hf t]

protected theorem comp {f : State → State} {op : State → α} (hop : TraceBlind erase op) (hf : TraceBlind State.untraced f) :
    TraceBlind erase fun s => op (f s) :=
  fun s => hop.congr (hf s)

protected theorem ite {c : State → Prop} [DecidablePred c] {f f' : State → α} (hc : ∀ s, c s.untraced ↔ c s)
    (hf : TraceBlind erase f) (hf' : TraceBlind erase f') : TraceBlind erase fun s => if c s then f s else f' s := by
  intro s
  by_cases h : c s
  · simpa only [if_pos h, if_pos ((hc s).mpr h)] using hf s
  · simpa only [if_neg h, if_neg (mt (hc s).mp h)] using hf' s

end

protected theorem next {f : State → State} (hf : TraceBlind State.untraced f) : TraceBlind forgetTrace fun s => .next (f s) :=
  fun s => congrArg Host.Outcome.next (hf s)

end TraceBlind

/-- What follows an operation that does not read the trace does not depend on the records of what came before. -/
theorem forgetTrace_andThen {op : State → Result} (hop : TraceBlind forgetTrace op) (r : Result) :
    forgetTrace (andThen (forgetTrace r) op) = forgetTrace (andThen r op) := by
  cases r with
  | next s => exact hop s
  | fault f => cases f <;> rfl
  | refused q => rfl

theorem TraceBlind.andThen {op op' : State → Result} (hop : TraceBlind forgetTrace op)
    (hop' : TraceBlind forgetTrace op') : TraceBlind forgetTrace fun s => Machine.andThen (op s) op' := by
  intro s
  rw [← forgetTrace_andThen hop' (op s.untraced), hop s, forgetTrace_andThen hop']

namespace TraceBlind

/-! ### SAMPLE to LATCH -/

protected theorem id : TraceBlind State.untraced fun s => s := fun _ => rfl

theorem pwmCntUp : TraceBlind State.untraced pwmCntUp := .ite (fun _ => Iff.rfl) (fun _ => rfl) (fun _ => rfl)

theorem countPwm : TraceBlind State.untraced countPwm :=
  .ite (fun _ => Iff.rfl) (fun _ => rfl) (.comp (op := setEvent .start false) (fun _ => rfl) pwmCntUp)

theorem advancePwm : TraceBlind State.untraced advancePwm :=
  .comp (op := comparePwm) (fun _ => rfl) (countPwm.comp (f := emit .pwmAdv none) fun _ => rfl)

theorem latchSource (k : EventSource) : TraceBlind State.untraced (latchSource k) :=
  .ite (fun _ => Iff.rfl)
    (.comp (op := setPend k) (fun _ => rfl) (.ite (fun _ => Iff.rfl) (fun _ => rfl) (fun _ => rfl))) .id

theorem latchEvents : TraceBlind State.untraced latchEvents :=
  (latchSource .pwmMatch).comp ((latchSource .start).comp ((latchSource .tick).comp ((latchSource .edge).comp
    (f := emit .latch none) fun _ => rfl)))

/-! ### The sequencer and the arbiter, faults included -/

theorem seqCntDown : TraceBlind State.untraced seqCntDown := .ite (fun _ => Iff.rfl) (fun _ => rfl) (fun _ => rfl)

theorem seqAct : TraceBlind forgetTrace seqAct := by
  intro s
  unfold Machine.seqAct
  simp only [State.untraced]
  split <;> rfl

theorem seqStep : TraceBlind forgetTrace seqStep :=
  have hcheck : TraceBlind forgetTrace seqCheck := .ite (fun _ => Iff.rfl) (.next .id) seqAct
  hcheck.comp (seqCntDown.comp (f := emit .seqStep none) fun _ => rfl)

theorem cycleSeq : TraceBlind forgetTrace cycleSeq := .ite (fun _ => Iff.rfl) seqStep (.next .id)

theorem go (g : GoTarget) : TraceBlind forgetTrace (go g) :=
  .ite (fun _ => Iff.rfl) (fun _ => rfl) (.ite (fun _ => Iff.rfl) (.next .id) (.next fun _ => rfl))

theorem resetDutyFor (g : GoTarget) : TraceBlind State.untraced (resetDutyFor g) := by
  cases g <;> exact fun _ => rfl

/-- The goal is read from TARGET_STATE and MOTOR_STATE, so that it is one and the same with and without the trace. -/
theorem arbDecide : TraceBlind forgetTrace arbDecide :=
  .ite (fun _ => Iff.rfl) (fun _ => rfl) (.ite (fun _ => Iff.rfl)
    (fun s => (go (arbGoal s.targetState s.motorState)).comp (resetDutyFor _) s) (.next fun _ => rfl))

theorem arbitrate : TraceBlind forgetTrace arbitrate := arbDecide.comp (f := emit .arb none) fun _ => rfl

/-! ### The services -/

theorem serviceIf {f : State → State} (k : EventSource) (hf : TraceBlind State.untraced f) :
    TraceBlind State.untraced (serviceIf k f) :=
  .ite (fun _ => Iff.rfl) hf .id

theorem decodeWidth (e : Nat) : TraceBlind State.untraced (decodeWidth e) :=
  .ite (fun _ => Iff.rfl) (fun _ => rfl) (fun _ => rfl)

/-- The width is measured from TIME and PULSE_START, and is what the record and the decode take. -/
theorem edgeFall : TraceBlind State.untraced edgeFall := fun s =>
  (decodeWidth (elapsed s)).comp (f := emit .edgeFall (some (elapsed s))) (fun _ => rfl) s

theorem edgeService : TraceBlind State.untraced edgeService :=
  .ite (fun _ => Iff.rfl) (fun _ => rfl) (edgeFall.comp (f := clearPend .edge) fun _ => rfl)

theorem watchdog : TraceBlind State.untraced watchdog :=
  .ite (fun _ => Iff.rfl) (fun _ => rfl) (.ite (fun _ => Iff.rfl) (fun _ => rfl) .id)

theorem highSideOn : TraceBlind State.untraced highSideOn := by
  refine .ite (fun _ => Iff.rfl) (fun s => ?_) .id
  simp only [State.untraced]
  split <;> rfl

theorem highSidesOff : TraceBlind State.untraced highSidesOff := .ite (fun _ => Iff.rfl) (fun _ => rfl) .id

theorem tickService : TraceBlind State.untraced tickService :=
  watchdog.comp (f := fun s => emit .tick none (clearPend .tick s)) fun _ => rfl

theorem pwmStartService : TraceBlind State.untraced pwmStartService :=
  highSideOn.comp (f := fun s => emit .pwmStart none (clearPend .start s)) fun _ => rfl

theorem pwmMatchService : TraceBlind State.untraced pwmMatchService :=
  highSidesOff.comp (f := fun s => emit .pwmMatch none (clearPend .pwmMatch s)) fun _ => rfl

theorem serviceEvents : TraceBlind State.untraced serviceEvents :=
  (serviceIf .pwmMatch pwmMatchService).comp ((serviceIf .start pwmStartService).comp
    ((serviceIf .tick tickService).comp (serviceIf .edge edgeService)))

theorem cycleIdle : TraceBlind forgetTrace cycleIdle :=
  .ite (fun _ => Iff.rfl) (.next .id) (arbitrate.comp serviceEvents)

end TraceBlind

/-! ### The services as operation words -/

/-- An operation word performed under a flag is one test of SERVICE (R255). -/
theorem performIf_service {service : State → State} (hexec : ∀ s, exec i s = .next (service s)) (s : State) :
    performIf (fun s => s.pend.get k) i s = .next (serviceIf k service s) := by
  unfold performIf serviceIf
  split
  · exact hexec s
  · rfl

/-- The edge service by its words: the level picks the word that the service performs (R150). -/
theorem edgeServiceByWords_eq (s : State) : edgeServiceByWords s = .next (serviceIf .edge edgeService s) := by
  unfold edgeServiceByWords
  obtain ⟨hset, e⟩ | ⟨hclear, e⟩ := serviceIf_cases s .edge edgeService <;> rw [e]
  · rw [if_pos (show s.pend.edge = true from hset)]
    obtain ⟨hrc, e⟩ | ⟨hrc, e⟩ := edgeService_cases s <;> rw [e, hrc] <;> rfl
  · rw [if_neg (Bool.eq_false_iff.mp (show s.pend.edge = false from hclear))]

/-- The words of SERVICE and ARB in their order are SERVICE and ARB (R240, R255). -/
theorem servicesByWords_eq (s : State) :
    (andThen (edgeServiceByWords s) fun s =>
      andThen (performIf (·.pend.tick) .tick s) fun s =>
      andThen (performIf (·.pend.start) .pwmStart s) fun s =>
      andThen (performIf (·.pend.pwmMatch) .pwmMatch s) fun s =>
      exec .arb s) = arbitrate (serviceEvents s) := by
  -- `pend.get k` of each source is the field that the words test.
  have htick := performIf_service (k := .tick) (i := .tick) fun _ => rfl
  have hstart := performIf_service (k := .start) (i := .pwmStart) fun _ => rfl
  have hmatch := performIf_service (k := .pwmMatch) (i := .pwmMatch) fun _ => rfl
  simp only [Events.get] at htick hstart hmatch
  simp only [edgeServiceByWords_eq, htick, hstart, hmatch, andThen_next]
  rfl

/-! ### The cycle -/

/-- The part of a cycle that TB_ADV begins (R120, R121). -/
def cycleFromTbAdv (s : State) : Result :=
  andThen (andThen (cycleSeq (latchEvents (advancePwm (advanceTime s)))) cycleIdle) fun s => .next (endCycle s)

theorem TraceBlind.cycleFromTbAdv : TraceBlind forgetTrace cycleFromTbAdv :=
  have hfront : TraceBlind State.untraced fun s => Machine.latchEvents (Machine.advancePwm (advanceTime s)) :=
    latchEvents.comp (advancePwm.comp fun _ => rfl)
  ((cycleSeq.comp hfront).andThen cycleIdle).andThen (.next fun _ => rfl)

theorem runCycle_eq_cycleFromTbAdv (s : State) :
    runCycle s = cycleFromTbAdv (sampleInput (nextTime s)
      (emitAt (nextTime s) .cycle (some s.rcIn.toNat) (beginPeriod s))) := rfl

theorem cycleByWords_eq_cycleFromTbAdv (s : State) :
    cycleByWords s = cycleFromTbAdv (sampleInput s.time (beginPeriod s)) := by
  unfold cycleByWords cycleFromTbAdv
  simp only [servicesByWords_eq, andThen_assoc]
  rfl

/-- Settles O45: up to TB_ADV the cycle and the words differ in the CYCLE record and the stamp of the SAMPLE record; from
there on they do the same, and none of it reads the trace. -/
theorem cycleIsItsMicroOperationsInOrder : Obligations.CycleIsItsMicroOperationsInOrder := by
  intro s
  change forgetTrace (runCycle s) = _
  rw [runCycle_eq_cycleFromTbAdv, cycleByWords_eq_cycleFromTbAdv]
  exact TraceBlind.cycleFromTbAdv.congr rfl

end Sys2Proof.Machine
end

section
/-! PROOFS. SW_ON and SW_OFF (R140, R141), and the four pins (R143): only the beginning of a period writes them. -/

namespace Sys2Proof.Machine

variable {s t : State} {k : EventSource} {g : GoTarget} {i : Instr}

/-! ### SW_ON and SW_OFF -/

theorem exec_onWord (x : SwitchId) (s : State) :
    exec x.onWord s =
      .next { s with sw := s.sw.set x true, trace := ⟨s.time, recordWord x.onWord, none⟩ :: s.trace } := by
  cases x <;> rfl

theorem exec_offWord (x : SwitchId) (s : State) :
    exec x.offWord s =
      .next { s with sw := s.sw.set x false, trace := ⟨s.time, recordWord x.offWord, none⟩ :: s.trace } := by
  cases x <;> rfl

/-- Settles O11: SW_ON by its switch, for each of the four. -/
theorem switchOnSetsOnlyItsSwitch : Obligations.SwitchOnSetsOnlyItsSwitch := fun s =>
  ⟨exec_onWord .fh s, exec_onWord .fl s, exec_onWord .bh s, exec_onWord .bl s⟩

/-- Settles O12: SW_OFF by its switch, for each of the four. -/
theorem switchOffClearsOnlyItsSwitch : Obligations.SwitchOffClearsOnlyItsSwitch := fun s =>
  ⟨exec_offWord .fh s, exec_offWord .fl s, exec_offWord .bh s, exec_offWord .bl s⟩

/-! ### The sequencer and the arbiter keep the pins -/

@[simp] theorem seqCntDown_pins : (seqCntDown s).pins = s.pins := by
  obtain ⟨-, e⟩ | ⟨-, e⟩ := seqCntDown_cases s <;> simp [e]

@[simp] theorem startTransition_pins : (startTransition g s).pins = s.pins := by simp [startTransition, makeSafe]

theorem go_pins (hgo : go g s = .next t) : t.pins = s.pins := by
  obtain ⟨-, ⟨-, rfl⟩ | ⟨-, rfl⟩⟩ := go_cases hgo
  · rfl
  · exact startTransition_pins

theorem seqAct_pins (hact : seqAct s = .next t) : t.pins = s.pins := by
  obtain ⟨-, -, rfl⟩ | ⟨-, -, rfl⟩ | ⟨-, -, rfl⟩ | ⟨-, -, rfl⟩ | ⟨-, -, rfl⟩ | ⟨-, -, rfl⟩ := seqAct_cases hact <;>
    simp [endFirstDead, commitDrive, commitBrake, endSettle]

theorem seqStep_pins (hstep : seqStep s = .next t) : t.pins = s.pins := by
  obtain ⟨-, rfl⟩ | ⟨-, hact⟩ := seqStep_cases hstep
  · simp
  · simp [seqAct_pins hact]

@[simp] theorem resetDutyFor_pins : (resetDutyFor g s).pins = s.pins := by cases g <;> rfl

theorem arbitrate_pins (harb : arbitrate s = .next t) : t.pins = s.pins := by
  obtain ⟨-, ⟨-, rfl⟩ | ⟨-, hgo⟩⟩ := arbitrate_cases harb
  · simp
  · simp [go_pins hgo]

/-! ### The services keep the pins -/

@[simp] theorem edgeRise_pins : (edgeRise s).pins = s.pins := rfl

@[simp] theorem edgeFall_pins : (edgeFall s).pins = s.pins := by
  obtain ⟨-, e⟩ | ⟨-, e⟩ := decodeWidth_cases (emit .edgeFall (some (elapsed s)) s) (elapsed s) <;> simp [edgeFall, e]

@[simp] theorem edgeService_pins : (edgeService s).pins = s.pins := by
  obtain ⟨-, e⟩ | ⟨-, e⟩ := edgeService_cases s <;> simp [e]

@[simp] theorem watchdog_pins : (watchdog s).pins = s.pins := by
  obtain ⟨-, -, e⟩ | ⟨-, e⟩ | ⟨-, -, e⟩ := watchdog_cases s <;> simp [e]

@[simp] theorem tickService_pins : (tickService s).pins = s.pins := watchdog_pins

@[simp] theorem highSideOn_pins : (highSideOn s).pins = s.pins := by
  obtain ⟨-, -, e⟩ | ⟨-, -, e⟩ | ⟨-, e⟩ := highSideOn_cases s <;> simp [e]

@[simp] theorem pwmStartService_pins : (pwmStartService s).pins = s.pins := highSideOn_pins

@[simp] theorem highSidesOff_pins : (highSidesOff s).pins = s.pins := by
  obtain ⟨-, -, e⟩ | ⟨-, e⟩ := highSidesOff_cases s <;> simp [e]

@[simp] theorem pwmMatchService_pins : (pwmMatchService s).pins = s.pins := highSidesOff_pins

theorem serviceIf_pins {service : State → State} (hservice : (service s).pins = s.pins) :
    (serviceIf k service s).pins = s.pins := by
  obtain ⟨-, e⟩ | ⟨-, e⟩ := serviceIf_cases s k service <;> simp [e, hservice]

@[simp] theorem serviceEvents_pins : (serviceEvents s).pins = s.pins := by
  simp [serviceEvents, serviceIf_pins]

/-! ### SAMPLE to LATCH keep the pins -/

@[simp] theorem sampleInput_pins {n : Nat} : (sampleInput n s).pins = s.pins := rfl

@[simp] theorem advanceTime_pins : (advanceTime s).pins = s.pins := rfl

@[simp] theorem pwmCntUp_pins : (pwmCntUp s).pins = s.pins := by
  obtain ⟨-, e⟩ | ⟨-, e⟩ := pwmCntUp_cases s <;> simp [e]

@[simp] theorem countPwm_pins : (countPwm s).pins = s.pins := by
  obtain ⟨-, e⟩ | ⟨-, e⟩ := countPwm_cases s <;> simp [e]

@[simp] theorem advancePwm_pins : (advancePwm s).pins = s.pins := countPwm_pins

@[simp] theorem latchSource_pins : (latchSource k s).pins = s.pins := by
  obtain ⟨-, e⟩ | ⟨-, -, e⟩ | ⟨-, -, e⟩ := latchSource_cases s k <;> simp [e]

@[simp] theorem latchEvents_pins : (latchEvents s).pins = s.pins := by simp [latchEvents]

/-! ### A period shows the bank of the period before -/

/-- The pins are written where the period begins, before any operation of the cycle writes SW (R143). -/
theorem cycleFront_pins : (cycleFront s).pins = s.sw := by simp [cycleFront]

theorem cycleSeq_pins (hseq : cycleSeq s = .next t) : t.pins = s.pins := by
  unfold cycleSeq at hseq
  split at hseq
  · exact seqStep_pins hseq
  · cases hseq; rfl

theorem cycleIdle_pins (hidle : cycleIdle s = .next t) : t.pins = s.pins := by
  unfold cycleIdle at hidle
  split at hidle
  · cases hidle; rfl
  · simp [arbitrate_pins hidle]

theorem runCycle_pins (hrun : runCycle s = .next t) : t.pins = s.sw := by
  obtain ⟨u, v, hseq, hidle, rfl⟩ := runCycle_cases hrun
  calc (endCycle v).pins = v.pins := endCycle_pins v
    _ = u.pins := cycleIdle_pins hidle
    _ = (cycleFront s).pins := cycleSeq_pins hseq
    _ = s.sw := cycleFront_pins

@[simp] theorem resetBlock_pins : (resetBlock s).pins = s.sw := rfl

/-! ### Every instruction -/

/-- What an instruction answers shows the pins of the state it computes. -/
theorem pins_of_next {u : State} (h : u.pins = s.pins) (hu : (.next u : Result) = .next t) : t.pins = s.pins :=
  Host.Outcome.next.inj hu ▸ h

/-- Within a period the pins keep what they show: CYCLE, RESET and the two stimulus words made of them (R90, R91) are the
only instructions that begin one (R143). -/
theorem exec_pins (hexec : exec i s = .next t) (hcycle : i ≠ .cycle) (hreset : i ≠ .reset) (hstim : i ≠ .stimReset)
    (hrun : ∀ level count, i ≠ .stimRun level count) : t.pins = s.pins := by
  cases i with
  | swOffFh | swOffFl | swOffBh | swOffBl => exact pins_of_next (switchOff_pins ..) hexec
  | swOnFh | swOnFl | swOnBh | swOnBl => exact pins_of_next (switchOn_pins ..) hexec
  | edgeRise => exact pins_of_next edgeRise_pins hexec
  | edgeFall => exact pins_of_next edgeFall_pins hexec
  | tick => exact pins_of_next tickService_pins hexec
  | pwmStart => exact pins_of_next pwmStartService_pins hexec
  | pwmMatch => exact pins_of_next pwmMatchService_pins hexec
  | arb => exact arbitrate_pins hexec
  | goFwd => exact go_pins (g := .fwd) hexec
  | goBwd => exact go_pins (g := .bwd) hexec
  | goBrk => exact go_pins (g := .brake) hexec
  | sample => exact pins_of_next sampleInput_pins hexec
  | tbAdv => exact pins_of_next advanceTime_pins hexec
  | pwmAdv => exact pins_of_next advancePwm_pins hexec
  | latch => exact pins_of_next latchEvents_pins hexec
  | seqStep => exact seqStep_pins hexec
  | condDiscard | condWdForce | condCoalescedEdge | condCoalescedTick | condCoalescedStart | condCoalescedMatch =>
    exact pins_of_next (emit_pins ..) hexec
  | condFault => exact pins_of_next ((takeFree_pins _).trans (emit_pins ..)) hexec
  | cycle => exact absurd rfl hcycle
  | reset => exact absurd rfl hreset
  | stimReset => exact absurd rfl hstim
  | stimRun level count => exact absurd rfl (hrun level count)

/-- Settles O13: a period shows the bank it begins with, and every other instruction keeps the pins. -/
theorem pinsShowTheLastPeriodsBank : Obligations.PinsShowTheLastPeriodsBank :=
  ⟨fun _ _ hexec => runCycle_pins hexec, fun _ _ hexec => (pins_of_next rfl hexec).trans resetBlock_pins,
    fun _ _ _ => exec_pins⟩

end Sys2Proof.Machine
end

section
/-! PROOFS. The RC pulse decoder (spec/42_rc_decoder.md): the elapsed width (R153), the two power scales (R156, R157, R159),
what a width decodes to, and the edge operations and their service (R150, R151, R154). -/

namespace Sys2Proof.Machine

variable {s t : State} {c : Config.Params} {e : Nat}

/-! ### The elapsed width -/

/-- The elapsed width is R153's modular difference, which is never negative. -/
theorem elapsed_cast (s : State) :
    (elapsed s : Int) = ((s.time : Int) - s.pulseStart) % (2 ^ s.cfg.timeW : Nat) :=
  Int.toNat_of_nonneg (Int.emod_nonneg _ (mod_cast (Nat.two_pow_pos s.cfg.timeW).ne'))

/-- Settles O17: the start cancels from the time counted on from it. -/
theorem elapsedWidthIsModular : Obligations.ElapsedWidthIsModular := by
  intro s n htime
  have hcancel : (((s.pulseStart + n : Nat) : Int) - s.pulseStart) = n := by omega
  zify
  rw [elapsed_cast, htime, Int.natCast_mod, Int.emod_sub_emod, hcancel]
  norm_cast

/-! ### The power scales -/

/-- Floor scaling a part of `d` to `m` stays within `m`, so that the clamps of R156 and R157 never bind. -/
theorem scale_le {x d : Nat} (m : Nat) (h : x ≤ d) : x * m / d ≤ m :=
  Nat.div_le_of_le_mul (Nat.mul_le_mul_right m h)

/-- Up to the band's end the clamp of R156 does not bind. -/
theorem forwardPower_eq_scale (h : e ≤ c.pwMax) :
    forwardPower c e = (e - c.pwMid) * c.powerMax / (c.pwMax - c.pwMid) :=
  min_eq_right (scale_le _ (Nat.sub_le_sub_right h _))

/-- Down to the band's end neither clamp of R157 binds. -/
theorem backwardPower_eq_scale (h : c.pwMin ≤ e) :
    backwardPower c e = (c.pwMid - e) * c.powerMax / (c.pwMid - c.pwMin) :=
  (Nat.zero_max _).trans (min_eq_right (scale_le _ (Nat.sub_le_sub_left h _)))

theorem forwardPower_mono : Monotone (forwardPower c) := fun _ _ h => by
  unfold forwardPower
  gcongr

theorem backwardPower_anti : Antitone (backwardPower c) := fun _ _ h => by
  unfold backwardPower
  gcongr

theorem forwardPower_pwMax (h : c.pwMid < c.pwMax) : forwardPower c c.pwMax = c.powerMax := by
  rw [forwardPower_eq_scale le_rfl, Nat.mul_div_cancel_left _ (Nat.sub_pos_of_lt h)]

theorem backwardPower_pwMin (h : c.pwMin < c.pwMid) : backwardPower c c.pwMin = c.powerMax := by
  rw [backwardPower_eq_scale le_rfl, Nat.mul_div_cancel_left _ (Nat.sub_pos_of_lt h)]

/-! ### What a width decodes to -/

theorem widthValid_iff : widthValid c e = true ↔ c.pwMin ≤ e ∧ e ≤ c.pwMax := by simp [widthValid]

theorem decodeValid_of_above (h : c.pwMid + c.pwDz < e) : decodeValid c e = (.fwd, forwardPower c e) := if_pos h

theorem decodeValid_of_below (h : e + c.pwDz < c.pwMid) : decodeValid c e = (.bwd, backwardPower c e) :=
  (if_neg (by omega)).trans (if_pos h)

/-- Braking is decoded in the deadzone and nowhere else (R158). -/
theorem decodeValid_eq_brake_iff :
    decodeValid c e = (.brake, 0) ↔ c.pwMid ≤ e + c.pwDz ∧ e ≤ c.pwMid + c.pwDz := by
  obtain ⟨habove, h⟩ | ⟨-, hbelow, h⟩ | ⟨hupper, hlower, h⟩ := decodeValid_cases c e
  · simp [h, habove]
  · simp [h, hbelow]
  · simp [h, hupper, hlower]

/-! ### EDGE_RISE and EDGE_FALL -/

/-- Settles O14: EDGE_RISE is that one update. -/
theorem edgeRiseRecordsTheStartAndReloadsTheWatchdog : Obligations.EdgeRiseRecordsTheStartAndReloadsTheWatchdog :=
  fun _ => rfl

/-- A width outside the band leaves its two records and nothing else (R155). -/
theorem exec_edgeFall_of_outside (h : elapsed s < s.cfg.pwMin ∨ s.cfg.pwMax < elapsed s) :
    exec .edgeFall s = .next { s with
      trace := ⟨s.time, 0xC1, some (elapsed s)⟩ :: ⟨s.time, 0x31, some (elapsed s)⟩ :: s.trace } := by
  obtain ⟨hvalid, -⟩ | ⟨-, heq⟩ := decodeWidth_cases (emit .edgeFall (some (elapsed s)) s) (elapsed s)
  · obtain ⟨hmin, hmax⟩ := widthValid_iff.mp hvalid
    exact absurd h (not_or.mpr ⟨hmin.not_gt, hmax.not_gt⟩)
  · exact congrArg _ heq

/-- A width in the band writes both targets together, its record apart nothing else (R154). -/
theorem exec_edgeFall_of_inside (hmin : s.cfg.pwMin ≤ elapsed s) (hmax : elapsed s ≤ s.cfg.pwMax) :
    exec .edgeFall s = .next { s with
      targetState := (decodeValid s.cfg (elapsed s)).1
      targetPower := (decodeValid s.cfg (elapsed s)).2
      trace := ⟨s.time, 0x31, some (elapsed s)⟩ :: s.trace } := by
  obtain ⟨-, heq⟩ | ⟨hinvalid, -⟩ := decodeWidth_cases (emit .edgeFall (some (elapsed s)) s) (elapsed s)
  · exact congrArg _ heq
  · exact absurd (widthValid_iff.mpr ⟨hmin, hmax⟩) (Bool.eq_false_iff.mp hinvalid)

/-- Settles O15: the band test (R155), then the three decodes of a valid width (R156 to R158), whose ranges lie in the band
by the first line of R12. -/
theorem edgeFallDecodesTheWidth : Obligations.EdgeFallDecodesTheWidth := by
  intro s e hwf helapsed
  obtain rfl : elapsed s = e := by exact_mod_cast (elapsed_cast s).trans helapsed.symm
  obtain ⟨⟨-, hmin, hmax, -, -⟩, -, -, -, hpower, -⟩ := s.cfg.wf_iff_rule12.mp hwf
  refine ⟨exec_edgeFall_of_outside, fun ⟨habove, hle⟩ => ⟨?_, scale_le _ (by omega), fun hend => ?_⟩,
    fun ⟨hge, hbelow⟩ => ⟨?_, scale_le _ (by omega)⟩, fun hzone => ?_⟩
  · rw [exec_edgeFall_of_inside (by omega) hle, decodeValid_of_above habove, forwardPower_eq_scale hle, hpower]
  · rw [hend, Nat.mul_div_cancel_left _ (by omega)]
  · rw [exec_edgeFall_of_inside hge (by omega), decodeValid_of_below hbelow, backwardPower_eq_scale hge, hpower]
  · rw [exec_edgeFall_of_inside (by omega) (by omega), decodeValid_eq_brake_iff.mpr hzone]

/-- After a width in the band the two targets are its decode (R154). -/
theorem targets_of_exec_edgeFall (hcfg : s.cfg = c) (hexec : exec .edgeFall s = .next t) (hmin : c.pwMin ≤ elapsed s)
    (hmax : elapsed s ≤ c.pwMax) : (t.targetState, t.targetPower) = decodeValid c (elapsed s) := by
  subst hcfg
  obtain rfl := Host.Outcome.next.inj ((exec_edgeFall_of_inside hmin hmax).symm.trans hexec)
  rfl

/-- Settles O16: the deadzone of the default constants is 365 to 385. -/
theorem defaultDeadzoneIsTwentyOneWidths : Obligations.DefaultDeadzoneIsTwentyOneWidths := by
  intro s t hcfg hexec hmin hmax
  rw [← Prod.mk.injEq, targets_of_exec_edgeFall hcfg hexec hmin hmax, decodeValid_eq_brake_iff]
  dsimp only
  omega

/-- A Forward decode writes the Forward scale (R156). -/
theorem forward_of_exec_edgeFall (hrule : c.Rule12) (hcfg : s.cfg = c) (hexec : exec .edgeFall s = .next t)
    (habove : c.pwMid + c.pwDz < elapsed s) (hmax : elapsed s ≤ c.pwMax) :
    t.targetState = .fwd ∧ t.targetPower = forwardPower c (elapsed s) := by
  obtain ⟨⟨-, hmin, -⟩, -⟩ := hrule
  exact Prod.mk.inj ((targets_of_exec_edgeFall hcfg hexec (by omega) hmax).trans (decodeValid_of_above habove))

/-- A Backward decode writes the Backward scale (R157). -/
theorem backward_of_exec_edgeFall (hrule : c.Rule12) (hcfg : s.cfg = c) (hexec : exec .edgeFall s = .next t)
    (hmin : c.pwMin ≤ elapsed s) (hbelow : elapsed s + c.pwDz < c.pwMid) :
    t.targetState = .bwd ∧ t.targetPower = backwardPower c (elapsed s) := by
  obtain ⟨⟨-, -, hmax, -⟩, -⟩ := hrule
  exact Prod.mk.inj ((targets_of_exec_edgeFall hcfg hexec hmin (by omega)).trans (decodeValid_of_below hbelow))

/-- Settles O18: the Forward scale is monotone and the Backward scale antitone in the width, each full at its end of the
band; with the defaults, the smallest offset of 11 cycles scales to 28 on either side. -/
theorem decodedPowerIsMonotonic : Obligations.DecodedPowerIsMonotonic := by
  refine ⟨fun s s' t t' hwf hcfg hexec hexec' => ⟨fun habove hle hmax => ?_, fun hmin hle hbelow => ?_⟩,
    fun s t hcfg hexec => ⟨fun hwidth => ?_, fun hwidth => ?_⟩⟩
  · have hrule := s.cfg.wf_iff_rule12.mp hwf
    obtain ⟨hstate, hpower⟩ := forward_of_exec_edgeFall hrule rfl hexec habove (hle.trans hmax)
    obtain ⟨hstate', hpower'⟩ := forward_of_exec_edgeFall hrule hcfg hexec' (habove.trans_le hle) hmax
    refine ⟨hstate, hstate', hpower ▸ hpower' ▸ forwardPower_mono hle, fun hend => ?_⟩
    rw [hpower', hend, forwardPower_pwMax (by omega)]
  · have hrule := s.cfg.wf_iff_rule12.mp hwf
    obtain ⟨hstate, hpower⟩ := backward_of_exec_edgeFall hrule rfl hexec hmin (by omega)
    obtain ⟨hstate', hpower'⟩ := backward_of_exec_edgeFall hrule hcfg hexec' (hmin.trans hle) hbelow
    refine ⟨hstate, hstate', hpower ▸ hpower' ▸ backwardPower_anti hle, fun hend => ?_⟩
    rw [hpower, hend, backwardPower_pwMin (by omega)]
  all_goals
    have htargets := targets_of_exec_edgeFall hcfg hexec (by rw [hwidth]; decide) (by rw [hwidth]; decide)
    rw [hwidth] at htargets
    exact congrArg Prod.snd htargets

/-! ### The edge service -/

theorem edgeService_of_high (h : s.rcPrev = true) : edgeService s = edgeRise (clearPend .edge s) := if_pos h

theorem edgeService_of_low (h : s.rcPrev = false) : edgeService s = edgeFall (clearPend .edge s) :=
  if_neg (Bool.eq_false_iff.mp h)

/-- The edge service is an operation word performed with its flag already clear: EDGE_RISE or EDGE_FALL by RC_PREV (R150,
R254). -/
theorem edgeService_eq_exec (s : State) :
    .next (edgeService s) =
      exec (if s.rcPrev then .edgeRise else .edgeFall) { s with pend := { s.pend with edge := false } } := by
  by_cases h : s.rcPrev = true
  · rw [if_pos h, edgeService_of_high h]
    rfl
  · rw [if_neg h, edgeService_of_low (Bool.eq_false_iff.mpr h)]
    rfl

/-- Settles O19: EDGE_RISE takes TIME and the watchdog's maximum from the state it is performed in, and the start and the
watchdog lie outside what EDGE_FALL writes. -/
theorem edgeServiceReadsLevelAndTimeAtService : Obligations.EdgeServiceReadsLevelAndTimeAtService := by
  intro s
  refine ⟨edgeService_eq_exec s, edgeService_pend, fun hhigh => ?_, fun hlow => ?_⟩
  · rw [edgeService_of_high hhigh]
    exact ⟨rfl, rfl, rfl, rfl⟩
  · have hframe := State.Frame.edgeFall (s := clearPend .edge s)
    rw [edgeService_of_low hlow]
    exact ⟨hframe.read .pulseStart (by decide), hframe.read .wdCnt (by decide)⟩

end Sys2Proof.Machine
end

section
/-! PROOFS. The watchdog (spec/43_watchdog.md): what TICK does (R180), how many ticks the force takes (R183), and the cycle
in which it comes (R181). -/

namespace Sys2Proof.Machine

variable {s t : State} {rs : List Reg}

/-! ### TICK -/

/-- At 0 and not Braking, TICK forces the target and leaves the counter at 0 (R180). -/
theorem tickService_of_zero (hzero : s.wdCnt = 0) (hmotor : s.motorState ≠ .brake) :
    tickService s = { s with
      pend := { s.pend with tick := false }, targetState := .brake
      trace := ⟨s.time, 0xC2, none⟩ :: ⟨s.time, 0x40, none⟩ :: s.trace } := by
  obtain ⟨-, -, e⟩ | ⟨hpos, -⟩ | ⟨-, hbrake, -⟩ := watchdog_cases (emit .tick none (clearPend .tick s))
  · exact e
  · exact absurd hzero (Nat.pos_iff_ne_zero.mp hpos)
  · exact absurd hbrake hmotor

/-- Above 0, TICK counts down and leaves the target (R180). -/
theorem tickService_of_pos (hpos : 0 < s.wdCnt) :
    tickService s = { s with
      pend := { s.pend with tick := false }, wdCnt := s.wdCnt - 1, trace := ⟨s.time, 0x40, none⟩ :: s.trace } := by
  obtain ⟨hzero, -⟩ | ⟨-, e⟩ | ⟨hzero, -⟩ := watchdog_cases (emit .tick none (clearPend .tick s))
  · exact absurd hzero (Nat.pos_iff_ne_zero.mp hpos)
  · exact e
  · exact absurd hzero (Nat.pos_iff_ne_zero.mp hpos)

/-- At 0 and Braking, the counter saturates (R180). -/
theorem tickService_of_zero_of_brake (hzero : s.wdCnt = 0) (hbrake : s.motorState = .brake) :
    tickService s = { s with
      pend := { s.pend with tick := false }, trace := ⟨s.time, 0x40, none⟩ :: s.trace } := by
  obtain ⟨-, hmotor, -⟩ | ⟨hpos, -⟩ | ⟨-, -, e⟩ := watchdog_cases (emit .tick none (clearPend .tick s))
  · exact absurd hbrake hmotor
  · exact absurd hzero (Nat.pos_iff_ne_zero.mp hpos)
  · exact e

/-- Settles O20: the three cases of TICK. -/
theorem tickCountsDownOrForcesBraking : Obligations.TickCountsDownOrForcesBraking := fun _ =>
  ⟨fun hzero hmotor => congrArg _ (tickService_of_zero hzero hmotor), fun hpos => congrArg _ (tickService_of_pos hpos),
    fun hzero hbrake => congrArg _ (tickService_of_zero_of_brake hzero hbrake)⟩

/-! ### Ticks in a row -/

/-- As long as the counter lasts, `n` ticks take it down by `n`, and leave the targets and the motor's state (R180). -/
theorem exists_repeatInstr_tick (n : Nat) (hn : n ≤ s.wdCnt) :
    ∃ t, repeatInstr n .tick s = .next t ∧ t.wdCnt = s.wdCnt - n ∧ t.targetState = s.targetState ∧
      t.targetPower = s.targetPower ∧ t.motorState = s.motorState := by
  induction n with
  | zero => exact ⟨s, rfl, rfl, rfl, rfl, rfl⟩
  | succ n ih =>
    obtain ⟨u, hrun, hcnt, htarget, hpower, hmotor⟩ := ih (by omega)
    refine ⟨tickService u, ?_, ?_⟩
    · rw [repeatInstr_succ_last, hrun]
      rfl
    · rw [tickService_of_pos (by omega), hcnt]
      exact ⟨Nat.sub_sub .., htarget, hpower, hmotor⟩

/-- Settles O21: the counter lasts for as many ticks as it holds; the next one finds it at 0. -/
theorem watchdogForcesOnTheTickAfterZero : Obligations.WatchdogForcesOnTheTickAfterZero := by
  intro s hmotor
  obtain ⟨t, hrun, hcnt, htarget, hpower, hsame⟩ := exists_repeatInstr_tick s.wdCnt le_rfl
  have hzero : t.wdCnt = 0 := hcnt.trans (Nat.sub_self _)
  have hforce := tickService_of_zero hzero (hsame ▸ hmotor)
  exact ⟨t, _, hrun, congrArg Host.Outcome.next hforce, hzero, htarget, hzero, rfl, hpower, hsame⟩

/-! ### The flags that LATCH leaves -/

theorem latchEvents_pend_get (k : EventSource) (s : State) :
    (latchEvents s).pend.get k = (s.pend.get k || s.ev.get k) := by
  have hpend := congrArg State.pend (Host.Outcome.next.inj (latchSetsFlagsAndRecordsLostEvents s))
  refine (congrArg (Events.get · k) hpend).trans ?_
  cases k <;> rfl

theorem pwmCntUp_ev : (pwmCntUp s).ev = s.ev := by
  obtain ⟨-, e⟩ | ⟨-, e⟩ := pwmCntUp_cases s <;> rw [e] <;> rfl

/-- PWM_ADV sets the event bits START and MATCH only (R125). -/
theorem advancePwm_ev_get {k : EventSource} (hstart : k ≠ .start) (hmatch : k ≠ .pwmMatch) :
    (advancePwm s).ev.get k = s.ev.get k := by
  have hcount : (countPwm (emit .pwmAdv none s)).ev.get k = s.ev.get k := by
    obtain ⟨-, e⟩ | ⟨-, e⟩ := countPwm_cases (emit .pwmAdv none s) <;> rw [e]
    · exact Events.get_set_other (h := hstart) ..
    · exact (Events.get_set_other (h := hstart) ..).trans (by rw [pwmCntUp_ev]; rfl)
  exact (Events.get_set_other (h := hmatch) ..).trans hcount

/-- A cycle's LATCH leaves EDGE pending if it was, or if the level changed (R122, R126). -/
theorem cycleFront_pend_edge : (cycleFront s).pend.edge = (s.pend.edge || s.rcIn != s.rcPrev) := by
  refine (latchEvents_pend_get .edge _).trans ?_
  rw [State.Frame.advancePwm.pend_eq, advancePwm_ev_get (by decide) (by decide)]
  simp [advanceTime, sampleInput, nextTime, Events.get, Events.set]

/-- A cycle's LATCH leaves TICK pending if it was, or if TIME reached a tick (R124, R126). -/
theorem cycleFront_pend_tick : (cycleFront s).pend.tick = (s.pend.tick || isTick s.cfg (nextTime s)) := by
  refine (latchEvents_pend_get .tick _).trans ?_
  rw [State.Frame.advancePwm.pend_eq, advancePwm_ev_get (by decide) (by decide)]
  simp [advanceTime, sampleInput, nextTime, Events.get, Events.set]

/-! ### The services of a cycle in which the watchdog forces -/

theorem State.Frame.wdCnt_eq (h : Frame rs s t) (hr : .wdCnt ∉ rs := by decide) : t.wdCnt = s.wdCnt := h.read .wdCnt hr

theorem State.Frame.targetState_eq (h : Frame rs s t) (hr : .targetState ∉ rs := by decide) :
    t.targetState = s.targetState :=
  MotorState.code_injective (h.read .targetState hr)

/-- Without a rising edge to serve, the edge service keeps the watchdog's counter (R150, R151). -/
theorem serviceIf_edge_wdCnt (h : s.pend.edge = true → s.rcPrev = false) :
    (serviceIf .edge edgeService s).wdCnt = s.wdCnt := by
  obtain ⟨hset, e⟩ | ⟨-, e⟩ := serviceIf_cases s .edge edgeService <;> rw [e]
  rw [edgeService_of_low (h hset)]
  exact (State.Frame.clearPend.trans .edgeFall).wdCnt_eq

/-- The two services of the modulator keep the target and the watchdog's counter, so that SERVICE leaves what TICK does:
the force, where it finds the counter at 0 and the motor not Braking (R180, R255). -/
theorem serviceEvents_forces_brake (htick : s.pend.tick = true) (hedge : s.pend.edge = true → s.rcPrev = false)
    (hzero : s.wdCnt = 0) (hmotor : s.motorState ≠ .brake) :
    (serviceEvents s).targetState = .brake ∧ (serviceEvents s).wdCnt = 0 := by
  have hpend : (serviceIf .edge edgeService s).pend.tick = true := by
    rw [serviceIf_pend edgeService_pend]
    exact htick
  have hzero' := (serviceIf_edge_wdCnt hedge).trans hzero
  have hmotor' := (State.Frame.serviceIf (k := .edge) (edgeService_frame (s := s))).motorState_eq.trans_ne hmotor
  have htickService : serviceIf .tick tickService (serviceIf .edge edgeService s) = _ :=
    (if_pos hpend).trans (tickService_of_zero hzero' hmotor')
  have hlater : State.Frame [.sw, .pend] (serviceIf .tick tickService (serviceIf .edge edgeService s))
      (serviceEvents s) :=
    (State.Frame.serviceIf .pwmStartService).trans_same (.serviceIf .pwmMatchService)
  rw [htickService] at hlater
  exact ⟨hlater.targetState_eq, hlater.wdCnt_eq.trans hzero'⟩

/-! ### The arbiter's answer, in the same cycle -/

/-- An idle block that is not Braking starts the braking transition as soon as the target is Braking (R181, R194, R240). -/
theorem exists_arbitrate_brake (hidle : s.phase = .idle) (htarget : s.targetState = .brake)
    (hmotor : s.motorState ≠ .brake) :
    ∃ t, arbitrate s = .next t ∧ t.targetState = .brake ∧ t.wdCnt = s.wdCnt ∧ t.phase = .dead1 ∧ t.tgt = .brake ∧
      t.seqCnt = s.cfg.dead ∧ t.sw.fh = false ∧ t.sw.bh = false := by
  have hgo : arbitrate s = go .brake (emit .arb none s) := by
    simp [arbitrate, arbDecide, htarget, hmotor.symm, arbGoal, resetDutyFor]
  obtain ⟨hbusy, -⟩ | ⟨-, hbrake, -⟩ | ⟨-, -, e⟩ := go_outcomes (emit .arb none s) .brake
  · exact absurd hidle hbusy
  · exact absurd hbrake hmotor
  · have hframe : State.Frame [.sw, .seq, .seqCnt] s (startTransition .brake (emit .arb none s)) :=
      State.Frame.emit.trans .startTransition
    exact ⟨_, hgo.trans e, hframe.targetState_eq.trans htarget, hframe.wdCnt_eq, rfl, rfl, rfl, rfl, rfl⟩

/-- A cycle that begins idle serves its events and arbitrates (R120). -/
theorem runCycle_of_idle (hidle : s.phase = .idle) :
    runCycle s = andThen (arbitrate (serviceEvents (cycleFront s))) fun t => .next (endCycle t) := by
  have hphase : (cycleFront s).phase = .idle := cycleFront_frame.seq_eq.1.trans hidle
  simp [runCycle, cycleSeq, cycleIdle, State.busy, hphase]

/-- Settles O22: the boundary holds no flag, so that the tick is served and any edge served is a falling one; TICK forces
the target, and ARB, which comes after it, starts the transition. -/
theorem watchdogBrakesInTheCycleOfItsTick : Obligations.WatchdogBrakesInTheCycleOfItsTick := by
  intro s hs hidle hmotor hzero hrise htime
  have hnone : s.pend = Events.none := (State.boundary_iff.mp hs).pend hidle
  have htick : (cycleFront s).pend.tick = true := by
    rw [cycleFront_pend_tick, show isTick s.cfg (nextTime s) = true from beq_iff_eq.mpr htime, Bool.or_true]
  have hedge : (cycleFront s).pend.edge = true → (cycleFront s).rcPrev = false := by
    rw [cycleFront_pend_edge, cycleFront_rcPrev, hnone]
    cases hlevel : s.rcIn with
    | false => exact fun _ => rfl
    | true =>
      have hprev : s.rcPrev = true := by simpa [hlevel] using hrise
      simp [hprev, Events.none]
  have hmotor' : (cycleFront s).motorState ≠ .brake := cycleFront_frame.motorState_eq.trans_ne hmotor
  obtain ⟨htarget, hcnt⟩ := serviceEvents_forces_brake htick hedge (cycleFront_frame.wdCnt_eq.trans hzero) hmotor'
  have hserved := cycleFront_frame.trans (serviceEvents_frame (s := cycleFront s))
  obtain ⟨t, harb, htarget', hcnt', hphase, htgt, hseq, hfh, hbh⟩ := exists_arbitrate_brake
    (hserved.seq_eq.1.trans hidle) htarget (hserved.motorState_eq.trans_ne hmotor)
  have hrun : runCycle s = .next (endCycle t) := by rw [runCycle_of_idle hidle, harb, andThen_next]
  exact ⟨endCycle t, hrun, htarget', hcnt'.trans hcnt, hphase, htgt,
    hseq.trans (congrArg Config.Params.dead hserved.cfg), hfh, hbh⟩

end Sys2Proof.Machine
end

section
/-! PROOFS. The operations of the sequencer (spec/44_motor_sequencer.md): what a GO starts (R191 to R194), what SEQ_STEP does
within a delay and at its end (R196 to R201), and where a counter leaves its range (log 9, log 10). -/

namespace Sys2Proof.Machine

variable {s : State} {g : GoTarget}

/-! ### GO -/

/-- A GO while busy is a fault with reason 4, the registers as they stood (R191, R258). -/
theorem go_of_busy (g : GoTarget) (hbusy : s.phase ≠ .idle) :
    go g s = .fault (.goBusy { s with trace := ⟨s.time, 0xCF, some 4⟩ :: s.trace }) := by
  obtain ⟨-, e⟩ | ⟨hidle, -⟩ | ⟨hidle, -⟩ := go_outcomes s g
  · exact e
  · exact absurd hidle hbusy
  · exact absurd hidle hbusy

/-- A GO in its target state is a no-op that emits nothing (R191). -/
theorem go_of_reached (hidle : s.phase = .idle) (hmotor : s.motorState = g.state) : go g s = .next s := by
  obtain ⟨hbusy, -⟩ | ⟨-, -, e⟩ | ⟨-, hne, -⟩ := go_outcomes s g
  · exact absurd hidle hbusy
  · exact e
  · exact absurd hmotor hne

/-- The start of a transition as one update: two switches off, and the first dead time to count (R191, R203). -/
theorem startTransition_eq (g : GoTarget) (s : State) :
    startTransition g s = { s with
      sw := (s.sw.set g.makeSafe.1 false).set g.makeSafe.2 false, tgt := g.state, phase := .dead1, seqCnt := s.cfg.dead
      trace := ⟨s.time, recordWord g.makeSafe.2.offWord, none⟩ :: ⟨s.time, recordWord g.makeSafe.1.offWord, none⟩ ::
        ⟨s.time, recordWord g.word, none⟩ :: s.trace } := by
  simp only [startTransition, makeSafe, switchOff, writeSeqCnt, writePhase, writeTgt, writeSw, emit, emitAt]

/-- Any other GO makes safe and starts the first dead time (R192 to R194). -/
theorem go_of_unreached (hidle : s.phase = .idle) (hmotor : s.motorState ≠ g.state) :
    go g s = .next (startTransition g s) := by
  obtain ⟨hbusy, -⟩ | ⟨-, heq, -⟩ | ⟨-, -, e⟩ := go_outcomes s g
  · exact absurd hidle hbusy
  · exact absurd heq hmotor
  · exact e

/-- Settles O28: the three outcomes of a GO, for Forward. -/
theorem goFwdStartsAForwardTransition : Obligations.GoFwdStartsAForwardTransition := by
  refine fun s => ⟨go_of_busy .fwd, go_of_reached (g := .fwd), fun hidle hmotor => ?_⟩
  have hgo := go_of_unreached (g := .fwd) hidle hmotor
  rw [startTransition_eq] at hgo
  exact hgo

/-- Settles O29: the three outcomes of a GO, for Backward. -/
theorem goBwdStartsABackwardTransition : Obligations.GoBwdStartsABackwardTransition := by
  refine fun s => ⟨go_of_busy .bwd, go_of_reached (g := .bwd), fun hidle hmotor => ?_⟩
  have hgo := go_of_unreached (g := .bwd) hidle hmotor
  rw [startTransition_eq] at hgo
  exact hgo

/-- Settles O30: the three outcomes of a GO, for Braking. -/
theorem goBrkStartsABrakingTransition : Obligations.GoBrkStartsABrakingTransition := by
  refine fun s => ⟨go_of_busy .brake, go_of_reached (g := .brake), fun hidle hmotor => ?_⟩
  have hgo := go_of_unreached (g := .brake) hidle hmotor
  rw [startTransition_eq] at hgo
  exact hgo

/-! ### What the sequencer does at the end of each delay -/

/-- The low side of the direction that a drive transition leads to (R197, R203). -/
def MotorState.lowSide : MotorState → SwitchId
  | .bwd => .bl
  | _ => .fl

/-- The high side of the direction that a drive transition leads to (R198, R203). -/
def MotorState.highSide : MotorState → SwitchId
  | .bwd => .bh
  | _ => .fh

theorem seqAct_of_dead1_drive (hphase : s.phase = .dead1) (htgt : s.tgt = .fwd ∨ s.tgt = .bwd) :
    seqAct s = .next (endFirstDead s.tgt.lowSide s) := by
  obtain htgt | htgt := htgt <;> simp [seqAct, hphase, htgt, MotorState.lowSide]

theorem seqAct_of_dead2_drive (hphase : s.phase = .dead2) (htgt : s.tgt = .fwd ∨ s.tgt = .bwd) :
    seqAct s = .next (commitDrive s.tgt.highSide s) := by
  obtain htgt | htgt := htgt <;> simp [seqAct, hphase, htgt, MotorState.highSide]

theorem seqAct_of_dead1_brake (hphase : s.phase = .dead1) (htgt : s.tgt = .brake) :
    seqAct s = .next (commitBrake s) := by
  simp [seqAct, hphase, htgt]

theorem seqAct_of_settle_brake (hphase : s.phase = .settle) (htgt : s.tgt = .brake) :
    seqAct s = .next (endSettle s) := by
  simp [seqAct, hphase, htgt]

/-- The six legal combinations are the six that the sequencer knows (R196, R201). -/
theorem seqAct_of_illegal (h : seqBusyOk s.phase s.tgt = false) : seqAct s = raise .seqIllegal s := by
  unfold seqAct
  split <;> simp_all [seqBusyOk]

/-- Each end of a delay as one update (R197 to R199). -/
theorem endFirstDead_eq (x : SwitchId) (s : State) :
    endFirstDead x s = { s with
      sw := s.sw.set x true, phase := .dead2, seqCnt := s.cfg.dead
      trace := ⟨s.time, recordWord x.onWord, none⟩ :: s.trace } := by
  simp only [endFirstDead, switchOn, writeSeqCnt, writePhase, writeSw, emit, emitAt]

theorem commitDrive_eq (x : SwitchId) (s : State) :
    commitDrive x s = { s with
      sw := s.sw.set x true, motorState := s.tgt, phase := .idle
      trace := ⟨s.time, recordWord x.onWord, none⟩ :: s.trace } := by
  simp only [commitDrive, switchOn, writePhase, writeMotorState, writeSw, emit, emitAt]

theorem commitBrake_eq (s : State) :
    commitBrake s = { s with
      sw := (s.sw.set .fl true).set .bl true, motorState := .brake, phase := .settle, seqCnt := s.cfg.settle
      trace := ⟨s.time, recordWord SwitchId.bl.onWord, none⟩ :: ⟨s.time, recordWord SwitchId.fl.onWord, none⟩ ::
        s.trace } := by
  simp only [commitBrake, switchOn, writeSeqCnt, writePhase, writeMotorState, writeSw, emit, emitAt]

/-! ### SEQ_STEP -/

/-- The state in which SEQ_STEP tests its counter: one counted down, the record emitted (R196). -/
theorem seqCntDown_emit_of_pos (hpos : 0 < s.seqCnt) :
    seqCntDown (emit .seqStep none s) =
      { s with seqCnt := s.seqCnt - 1, trace := ⟨s.time, 0x84, none⟩ :: s.trace } := by
  obtain ⟨-, e⟩ | ⟨hzero, -⟩ := seqCntDown_cases (emit .seqStep none s)
  · exact e
  · exact absurd hzero (Nat.ne_of_gt hpos)

/-- Within a delay SEQ_STEP counts (R196). -/
theorem seqStep_of_two_le (hcnt : 2 ≤ s.seqCnt) :
    seqStep s = .next { s with seqCnt := s.seqCnt - 1, trace := ⟨s.time, 0x84, none⟩ :: s.trace } := by
  have hleft : s.seqCnt - 1 ≠ 0 := by omega
  rw [seqStep, seqCntDown_emit_of_pos (by omega), seqCheck, if_pos hleft]

/-- The state in which the sequencer acts at the end of a delay (R196). -/
def State.delayEnded (s : State) : State := { s with seqCnt := 0, trace := ⟨s.time, 0x84, none⟩ :: s.trace }

/-- In the last cycle of a delay SEQ_STEP acts (R196). -/
theorem seqStep_of_one (hcnt : s.seqCnt = 1) : seqStep s = seqAct s.delayEnded := by
  rw [seqStep, seqCntDown_emit_of_pos (by omega), hcnt]
  exact if_neg (not_not.mpr rfl)

/-- Settles O31: the count ends one cycle later at the earliest. -/
theorem seqStepCountsDown : Obligations.SeqStepCountsDown := fun _ => seqStep_of_two_le

/-- Settles O32: the end of each of the six delays, in the state with the counter at 0. -/
theorem seqStepActsAtTheEndOfADelay : Obligations.SeqStepActsAtTheEndOfADelay := by
  intro s hcnt
  have hact : exec .seqStep s = seqAct s.delayEnded := seqStep_of_one hcnt
  rw [hact]
  refine ⟨fun hphase htgt => ?_, fun hphase htgt => ?_, fun hphase htgt => ?_, fun hphase htgt => ?_,
    fun hphase htgt => ?_, fun hphase htgt => ?_⟩
  all_goals
    change s.delayEnded.phase = _ at hphase
    change s.delayEnded.tgt = _ at htgt
  · have hlow : s.delayEnded.tgt.lowSide = .fl := congrArg _ htgt
    rw [seqAct_of_dead1_drive hphase (.inl htgt), hlow, endFirstDead_eq]
    rfl
  · have hlow : s.delayEnded.tgt.lowSide = .bl := congrArg _ htgt
    rw [seqAct_of_dead1_drive hphase (.inr htgt), hlow, endFirstDead_eq]
    rfl
  · have hhigh : s.delayEnded.tgt.highSide = .fh := congrArg _ htgt
    rw [seqAct_of_dead2_drive hphase (.inl htgt), hhigh, commitDrive_eq, ← htgt]
    rfl
  · have hhigh : s.delayEnded.tgt.highSide = .bh := congrArg _ htgt
    rw [seqAct_of_dead2_drive hphase (.inr htgt), hhigh, commitDrive_eq, ← htgt]
    rfl
  · rw [seqAct_of_dead1_brake hphase htgt, commitBrake_eq]
    rfl
  · rw [seqAct_of_settle_brake hphase htgt]
    rfl

/-- Settles O33: the fault is raised in the state with the counter at 0. -/
theorem illegalSequencerStateFaults : Obligations.IllegalSequencerStateFaults := fun _ hcnt hillegal =>
  (seqStep_of_one hcnt).trans (seqAct_of_illegal hillegal)

/-! ### Counters past their range -/

/-- From 0 the counter takes a free value of its width (log 9). -/
theorem seqCntDown_emit_of_zero (hzero : s.seqCnt = 0) :
    seqCntDown (emit .seqStep none s) = { s with
      seqCnt := Config.seqCntBelowZero s.free % 2 ^ s.cfg.seqW, free := s.free + 1
      trace := ⟨s.time, 0x84, none⟩ :: s.trace } := by
  obtain ⟨hpos, -⟩ | ⟨-, e⟩ := seqCntDown_cases (emit .seqStep none s)
  · exact absurd hzero (Nat.ne_of_gt hpos)
  · exact e

/-- From a count that has no successor in 8 bits, and is not the last of the period, PWM_CNT takes a free value (log 10). -/
theorem advancePwm_of_past (hwide : 255 ≤ s.pwmCnt) (hne : s.pwmCnt ≠ s.cfg.pwmPeriod - 1) :
    advancePwm s = { s with
      pwmCnt := (Config.pwmCntPastWidth s.free).toNat, free := s.free + 1
      ev := { s.ev with start := false, pwmMatch := ((Config.pwmCntPastWidth s.free).toNat == s.dutySh) }
      trace := ⟨s.time, 0x82, none⟩ :: s.trace } := by
  obtain ⟨hlast, -⟩ | ⟨-, e⟩ := countPwm_cases (emit .pwmAdv none s)
  · exact absurd hlast hne
  · obtain ⟨hlt, -⟩ | ⟨-, e'⟩ := pwmCntUp_cases (emit .pwmAdv none s)
    · rw [emit_pwmCnt] at hlt
      omega
    · rw [advancePwm, e, e']
      simp only [comparePwm, setEvent, Events.set, writePwmCnt, takeFree, emit, emitAt]
      rfl

/-- Settles O34: the two free values, each reduced to its register's width. -/
theorem countersPastTheirRangeTakeAFreeValue : Obligations.CountersPastTheirRangeTakeAFreeValue := by
  refine ⟨fun s hzero => ⟨_, Nat.mod_lt (Config.seqCntBelowZero s.free) (Nat.two_pow_pos _), ?_, ?_⟩,
    fun s hwide hne => ⟨_, BitVec.isLt _, congrArg _ (advancePwm_of_past hwide hne)⟩⟩
  · intro hpos
    change seqCheck (seqCntDown (emit .seqStep none s)) = _
    rw [seqCntDown_emit_of_zero hzero]
    exact if_pos hpos
  · intro hacts
    change seqCheck (seqCntDown (emit .seqStep none s)) = _
    rw [seqCntDown_emit_of_zero hzero, hacts]
    exact if_neg (not_not.mpr rfl)

end Sys2Proof.Machine
end

section
/-! PROOFS. What the inputs alone can drive the block to (R206, R264): RESET and every stimulus lead from a boundary state to
a boundary state, and a cycle moves the motor state to or from Braking only (R207). -/

namespace Sys2Proof

/-- The instructions that the inputs drive: a period with `rst` at 0 or at 1 (R43), and the stimulus words (R90, R91). -/
def Instr.drivesInputs : Instr → Bool
  | .cycle | .reset | .stimReset | .stimRun _ _ => true
  | _ => false

/-- Every stimulus word but the reserved one is RESET or RUN (R90, R91). -/
theorem exists_decodeStim {w : StimWord} (hw : w ≠ 0x80000000) : ∃ i, decodeStim w = .ok i ∧ i.drivesInputs = true := by
  rw [← stimWord_stimLevel_stimCount w] at hw ⊢
  by_cases hcount : stimCount w = 0
  · rw [hcount] at hw ⊢
    cases hlevel : stimLevel w with
    | false => exact ⟨_, decodeStim_stimWord_false_zero, rfl⟩
    | true => exact absurd (by rw [hlevel]; rfl) hw
  · exact ⟨_, decodeStim_stimWord_of_ne_zero hcount, rfl⟩

end Sys2Proof

namespace Sys2Proof.Machine

variable {s t u : State} {i : Instr} {b : Bool}

/-! ### Every input keeps the boundary -/

namespace State.AtBoundary

/-- The invariant reads neither `rc_in` nor the queue of stimulus words. -/
protected theorem driveRc (h : s.AtBoundary) : (driveRc b s).AtBoundary :=
  { h with bounded := h.bounded.driveRc, sequenced := { h.sequenced with } }

theorem withStims (h : s.AtBoundary) (ws : List StimWord) : ({ s with stims := ws } : State).AtBoundary :=
  { h with bounded := { h.bounded with }, sequenced := { h.sequenced with } }

/-- RESET leads to a boundary state (R206, R280). -/
protected theorem resetBlock (h : s.AtBoundary) : (resetBlock s).AtBoundary where
  bounded := h.bounded.resetBlock
  sequenced := ⟨rfl, Nat.zero_le _, absurd rfl, fun _ => rfl⟩
  pwmCnt := (Nat.zero_le _).trans_lt h.pwmCnt
  pend _ := rfl
  ev := rfl
  started := rfl

/-- What the inputs drive completes in a boundary state, and leaves the words still to be performed. -/
theorem exists_exec (h : s.AtBoundary) (hi : i.drivesInputs = true) :
    ∃ t, exec i s = .next t ∧ t.AtBoundary ∧ t.ops = s.ops ∧ t.stims = s.stims := by
  cases i with
  | cycle =>
    obtain ⟨t, hrun, ht, -⟩ := h.exists_runCycle
    have hframe := State.Frame.runCycle hrun
    exact ⟨t, hrun, ht, hframe.ops, hframe.stims⟩
  | stimRun level count =>
    obtain ⟨t, hrun, ht, -⟩ := (h.driveRc (b := level)).exists_runCycles count.toNat
    have hframe := State.Frame.runCycles hrun
    exact ⟨t, hrun, ht, hframe.ops, hframe.stims⟩
  | reset | stimReset => exact ⟨_, rfl, h.resetBlock, rfl, rfl⟩
  | _ => exact nomatch hi

end State.AtBoundary

/-! ### A driven step -/

theorem State.driven_iff : s.driven = true ↔ s.AtBoundary ∧ s.ops = [] ∧ stimsOk s.stims = true := by
  simp [State.driven, State.boundary_iff, and_assoc]

/-- With no operation word to perform, a driven state fetches an instruction of the inputs (R80, R268). -/
theorem exists_fetch_of_driven (h : s.driven = true) :
    ∃ i u, fetch s = .instr i u ∧ i.drivesInputs = true ∧ u.driven = true := by
  obtain ⟨hs, hops, hok⟩ := State.driven_iff.mp h
  cases hstims : s.stims with
  | nil =>
    have hfetch : fetch s = fetchFree s := by simp [fetch, hops, hstims]
    refine ⟨_, _, hfetch, ?_, h⟩
    split <;> rfl
  | cons w ws =>
    obtain ⟨hw, hws⟩ := stimsOk_cons.mp (hstims ▸ hok)
    obtain ⟨i, hdecode, hi⟩ := exists_decodeStim hw
    exact ⟨i, _, (fetch_of_stims hops hstims).trans (fetchStim_of_decodeStim hdecode), hi,
      State.driven_iff.mpr ⟨hs.withStims ws, hops, hws⟩⟩

/-- Settles O57: a driven step passes the two checks, fetches an instruction of the inputs in a boundary state, and performs
it there. -/
theorem everyDrivenStepKeepsTheBoundary : Obligations.EveryDrivenStepKeepsTheBoundary := by
  intro s h
  obtain ⟨hs, -, hok⟩ := State.driven_iff.mp h
  obtain ⟨i, u, hfetch, hi, hdriven⟩ := exists_fetch_of_driven h
  obtain ⟨hu, huops, huok⟩ := State.driven_iff.mp hdriven
  obtain ⟨t, hexec, ht, hops, hstims⟩ := hu.exists_exec hi
  have hstep : step s = exec i u :=
    step_of_fetch (s.cfg.wf_iff_rule12.mpr hs.bounded.rule12) hok hfetch (mayPerform_of_started hu.started)
  exact ⟨t, hstep.trans hexec, State.driven_iff.mpr ⟨ht, hops.trans huops, hstims ▸ huok⟩⟩

/-- Settles O56: RESET leaves a boundary state, whose registers are within their widths. -/
theorem resetStateIsSafe : Obligations.ResetStateIsSafe :=
  ⟨State.driven_iff.mpr ⟨atBoundary_reset, rfl, rfl⟩, State.sound_iff_bounded.mpr atBoundary_reset.bounded⟩

/-! ### The motor state across a cycle -/

/-- The sequencer moves the motor state at the two commit points only (R198, R199). -/
theorem seqAct_motorState (hact : seqAct s = .next t) :
    t.motorState = s.motorState ∨ t.motorState = .brake ∨ (s.phase = .dead2 ∧ t.motorState = s.tgt) := by
  obtain ⟨-, -, rfl⟩ | ⟨-, -, rfl⟩ | ⟨hphase, -, rfl⟩ | ⟨hphase, -, rfl⟩ | ⟨-, -, rfl⟩ | ⟨-, -, rfl⟩ :=
    seqAct_cases hact
  · exact .inl rfl
  · exact .inl rfl
  · exact .inr (.inr ⟨hphase, rfl⟩)
  · exact .inr (.inr ⟨hphase, rfl⟩)
  · exact .inr (.inl rfl)
  · exact .inl rfl

theorem cycleSeq_motorState (hseq : cycleSeq s = .next t) :
    t.motorState = s.motorState ∨ t.motorState = .brake ∨ (s.phase = .dead2 ∧ t.motorState = s.tgt) := by
  have hcount : State.Frame [.seqCnt] s (seqCntDown (emit .seqStep none s)) := State.Frame.emit.trans .seqCntDown
  unfold cycleSeq at hseq
  split at hseq
  · obtain ⟨-, rfl⟩ | ⟨-, hact⟩ := seqStep_cases hseq
    · exact .inl hcount.motorState_eq
    · obtain ⟨hphase, htgt⟩ := hcount.seq_eq
      rw [← hcount.motorState_eq, ← hphase, ← htgt]
      exact seqAct_motorState hact
  · exact .inl (congrArg State.motorState (Host.Outcome.next.inj hseq)).symm

/-- The second dead time is that of a drive from Braking (R206, R242). -/
theorem State.Sequenced.brake_of_dead2 (h : s.Sequenced) (hphase : s.phase = .dead2) : s.motorState = .brake := by
  obtain ⟨hm, -⟩ | ⟨hdead1, -⟩ | ⟨hsettle, -⟩ := bankRow_busy h.row (by rw [hphase]; decide)
  · exact hm
  · exact nomatch hphase.symm.trans hdead1
  · exact nomatch hphase.symm.trans hsettle

/-- Settles O40: only SEQ_STEP writes MOTOR_STATE, and its drive commit ends a second dead time. -/
theorem motorStateChangesOnlyToOrFromBraking : Obligations.MotorStateChangesOnlyToOrFromBraking := by
  intro s t hs hexec
  obtain ⟨u, v, hseq, hidle, rfl⟩ := runCycle_cases hexec
  have hlater : (endCycle v).motorState = u.motorState := (cycleIdle_frame hidle).motorState_eq
  obtain ⟨hphase, htgt⟩ := (cycleFront_frame (s := s)).seq_eq
  have hmotor := cycleSeq_motorState hseq
  have hfront : (cycleFront s).motorState = s.motorState := cycleFront_frame.motorState_eq
  rw [← hlater, hfront, hphase, htgt] at hmotor
  exact hmotor.imp_right (.imp_right fun ⟨hdead2, hcommit⟩ =>
    ⟨(State.boundary_iff.mp hs).sequenced.brake_of_dead2 hdead2, hcommit⟩)

end Sys2Proof.Machine
end

section
/-! PROOFS. No shoot-through (R205): the switch records of a cycle account for the bank it ends with, and no bank along them
has both switches of a leg on. -/

namespace Sys2Proof.Machine

variable {s t u : State} {i : Instr} {k : EventSource} {x : SwitchId} {g : GoTarget} {w : Switches}

/-! ### Banks along a list of records -/

theorem banksAlong_concat (w : Switches) (rs : List Record) (r : Record) :
    banksAlong w (rs ++ [r]) = banksAlong w rs ++ [bankAfter ((banksAlong w rs).getLastD w) r] := by
  induction rs generalizing w with
  | nil => rfl
  | cons r' rs ih => simp only [List.cons_append, banksAlong, ih, List.getLastD_cons]

theorem legsOk_iff : w.legsOk = true ↔ (w.fh = false ∨ w.bl = false) ∧ (w.bh = false ∨ w.fl = false) := by
  simp [Switches.legsOk]

/-- Turning a switch off closes no leg (R141, R205). -/
theorem legsOk_set_false (h : w.legsOk = true) : (w.set x false).legsOk = true := by
  obtain ⟨hfwd, hbwd⟩ := legsOk_iff.mp h
  cases x <;> simp [legsOk_iff, Switches.set, hfwd, hbwd]

/-- A bank that may have a switch turned on had no leg closed before (R140, R205). -/
theorem legsOk_of_set_true (h : (w.set x true).legsOk = true) : w.legsOk = true := by
  rw [legsOk_iff] at h ⊢
  cases x <;> simp_all [Switches.set]

theorem bankAfter_coalesced {n : Nat} {p : Option Nat} (w : Switches) :
    bankAfter w ⟨n, recordWord k.coalesced, p⟩ = w := by
  cases k <;> rfl

theorem bankAfter_goWord {n : Nat} {p : Option Nat} (w : Switches) : bankAfter w ⟨n, recordWord g.word, p⟩ = w := by
  cases g <;> rfl

/-! ### Switching safely -/

/-- From `s` to `t` the switch records emitted account for the bank, and no bank along them has a leg on at both sides
(R96, R205). -/
structure State.SwitchesSafely (s t : State) : Prop where
  exists_records : ∃ rs, t.log = s.log ++ rs ∧ (∀ w ∈ s.sw :: banksAlong s.sw rs, w.legsOk = true) ∧
    (banksAlong s.sw rs).getLastD s.sw = t.sw

namespace State.SwitchesSafely

theorem refl (hok : s.sw.legsOk = true) : SwitchesSafely s s :=
  ⟨[], (List.append_nil _).symm, by simpa [banksAlong] using hok, rfl⟩

theorem legsOk (h : SwitchesSafely s t) : t.sw.legsOk = true := by
  obtain ⟨rs, -, hok, hlast⟩ := h
  exact hok _ (hlast ▸ List.getLastD_mem_cons ..)

/-- One more record, and the bank that it leaves. -/
theorem concat (h : SwitchesSafely s t) {r : Record} (htrace : u.trace = r :: t.trace) (hsw : u.sw = bankAfter t.sw r)
    (hok : u.sw.legsOk = true) : SwitchesSafely s u := by
  obtain ⟨rs, hlog, hall, hlast⟩ := h
  have hbanks := banksAlong_concat s.sw rs r
  rw [hlast, ← hsw] at hbanks
  refine ⟨rs ++ [r], ?_, ?_, ?_⟩
  · rw [State.log, htrace, List.reverse_cons, ← List.append_assoc]
    exact congrArg (· ++ [r]) hlog
  · rw [hbanks]
    simpa [or_imp, forall_and, hok] using hall
  · simp [hbanks]

/-- An operation that writes neither the trace nor the bank. -/
theorem keep (h : SwitchesSafely s t) (htrace : u.trace = t.trace := by rfl) (hsw : u.sw = t.sw := by rfl) :
    SwitchesSafely s u := by
  obtain ⟨rs, hlog, hall, hlast⟩ := h
  exact ⟨rs, (congrArg List.reverse htrace).trans hlog, hall, hlast.trans hsw.symm⟩

/-- A record of another operation than SW_ON and SW_OFF changes no bank (R96). -/
theorem record (h : SwitchesSafely s t) {n : Nat} {p : Option Nat}
    (hi : ∀ w, bankAfter w ⟨n, recordWord i, p⟩ = w := by exact fun _ => rfl) : SwitchesSafely s (emitAt n i p t) :=
  h.concat rfl (hi t.sw).symm h.legsOk

protected theorem switchOn (h : SwitchesSafely s t) (hok : (t.sw.set x true).legsOk = true) :
    SwitchesSafely s (switchOn x t) :=
  h.concat (r := ⟨t.time, recordWord x.onWord, none⟩) rfl (by cases x <;> rfl) hok

protected theorem switchOff (h : SwitchesSafely s t) : SwitchesSafely s (switchOff x t) :=
  h.concat (r := ⟨t.time, recordWord x.offWord, none⟩) rfl (by cases x <;> rfl) (legsOk_set_false h.legsOk)

/-! ### SAMPLE to LATCH -/

protected theorem countPwm (h : SwitchesSafely s t) : SwitchesSafely s (countPwm t) := by
  obtain ⟨-, e⟩ | ⟨-, e⟩ := countPwm_cases t <;> rw [e]
  · exact h.keep
  · obtain ⟨-, e⟩ | ⟨-, e⟩ := pwmCntUp_cases t <;> rw [e] <;> exact h.keep

protected theorem advancePwm (h : SwitchesSafely s t) : SwitchesSafely s (advancePwm t) :=
  (SwitchesSafely.countPwm (t := emit .pwmAdv none t) h.record).keep

protected theorem latchSource (h : SwitchesSafely s t) : SwitchesSafely s (latchSource k t) := by
  obtain ⟨-, e⟩ | ⟨-, -, e⟩ | ⟨-, -, e⟩ := latchSource_cases t k <;> rw [e]
  · exact h
  · exact h.keep
  · exact (h.record bankAfter_coalesced).keep

protected theorem latchEvents (h : SwitchesSafely s t) : SwitchesSafely s (latchEvents t) :=
  (SwitchesSafely.latchSource (t := emit .latch none t) h.record).latchSource.latchSource.latchSource

protected theorem cycleFront (h : SwitchesSafely s t) : SwitchesSafely s (cycleFront t) :=
  have hperiod : SwitchesSafely s (beginPeriod t) := h.keep
  have hcycle : SwitchesSafely s (emitAt (nextTime t) .cycle (some t.rcIn.toNat) (beginPeriod t)) := hperiod.record
  have hsample : SwitchesSafely s (sampleInput (nextTime t) _) := (hcycle.record (i := .sample)).keep
  have htime : SwitchesSafely s (advanceTime _) := (hsample.record (i := .tbAdv)).keep
  htime.advancePwm.latchEvents

/-! ### The sequencer: each bank it leaves is one of R206 -/

protected theorem seqAct (h : SwitchesSafely s t) (hact : seqAct t = .next u) (hu : u.Sequenced) :
    SwitchesSafely s u := by
  obtain ⟨-, hok⟩ := legal_of_bankRow hu.row
  obtain ⟨-, -, rfl⟩ | ⟨-, -, rfl⟩ | ⟨-, -, rfl⟩ | ⟨-, -, rfl⟩ | ⟨-, -, rfl⟩ | ⟨-, -, rfl⟩ := seqAct_cases hact
  · exact (h.switchOn hok).keep
  · exact (h.switchOn hok).keep
  · exact (h.switchOn hok).keep
  · exact (h.switchOn hok).keep
  · exact ((h.switchOn (legsOk_of_set_true (w := t.sw.set .fl true) (x := .bl) hok)).switchOn hok).keep
  · exact h.keep

protected theorem cycleSeq (h : SwitchesSafely s t) (hseq : cycleSeq t = .next u) (hu : u.Sequenced) :
    SwitchesSafely s u := by
  unfold Machine.cycleSeq at hseq
  split at hseq
  · have hstep : SwitchesSafely s (emit .seqStep none t) := h.record
    have hcount : SwitchesSafely s (seqCntDown (emit .seqStep none t)) := by
      obtain ⟨-, e⟩ | ⟨-, e⟩ := seqCntDown_cases (emit .seqStep none t) <;> rw [e] <;> exact hstep.keep
    obtain ⟨-, rfl⟩ | ⟨-, hact⟩ := seqStep_cases hseq
    · exact hcount
    · exact hcount.seqAct hact hu
  · exact Host.Outcome.next.inj hseq ▸ h

/-! ### The services and the arbiter -/

protected theorem decodeWidth {e : Nat} (h : SwitchesSafely s t) : SwitchesSafely s (decodeWidth e t) := by
  obtain ⟨-, heq⟩ | ⟨-, heq⟩ := decodeWidth_cases t e <;> rw [heq]
  · exact h.keep
  · exact h.record

protected theorem edgeService (h : SwitchesSafely s t) : SwitchesSafely s (edgeService t) := by
  have hclear : SwitchesSafely s (clearPend .edge t) := h.keep
  obtain ⟨-, e⟩ | ⟨-, e⟩ := edgeService_cases t <;> rw [e]
  · exact (hclear.record (i := .edgeRise)).keep
  · exact (hclear.record (i := .edgeFall)).decodeWidth

protected theorem tickService (h : SwitchesSafely s t) : SwitchesSafely s (tickService t) := by
  have hclear : SwitchesSafely s (clearPend .tick t) := h.keep
  have htick : SwitchesSafely s (emit .tick none (clearPend .tick t)) := hclear.record
  obtain ⟨-, -, e⟩ | ⟨-, e⟩ | ⟨-, -, e⟩ := watchdog_cases (emit .tick none (clearPend .tick t)) <;>
    rw [Machine.tickService, e]
  · exact (htick.keep (u := writeTargetState .brake _)).record
  · exact htick.keep
  · exact htick

/-- The high side that PWM_START turns on is that of the row (R206, R220). -/
protected theorem pwmStartService (h : SwitchesSafely s t) (ht : t.Resting) :
    SwitchesSafely s (pwmStartService t) := by
  have hclear : SwitchesSafely s (clearPend .start t) := h.keep
  have hstart : SwitchesSafely s (emit .pwmStart none (clearPend .start t)) := hclear.record
  obtain ⟨-, hok⟩ := legal_of_bankRow ht.pwmStartService.row
  unfold Machine.pwmStartService at hok ⊢
  obtain ⟨-, -, e⟩ | ⟨-, -, e⟩ | ⟨-, e⟩ := highSideOn_cases (emit .pwmStart none (clearPend .start t)) <;>
    rw [e] at hok ⊢
  · exact hstart.switchOn hok
  · exact hstart.switchOn hok
  · exact hstart

protected theorem pwmMatchService (h : SwitchesSafely s t) : SwitchesSafely s (pwmMatchService t) := by
  have hclear : SwitchesSafely s (clearPend .pwmMatch t) := h.keep
  have hmatch : SwitchesSafely s (emit .pwmMatch none (clearPend .pwmMatch t)) := hclear.record
  obtain ⟨-, -, e⟩ | ⟨-, e⟩ := highSidesOff_cases (emit .pwmMatch none (clearPend .pwmMatch t)) <;>
    rw [Machine.pwmMatchService, e]
  · exact hmatch.switchOff.switchOff
  · exact hmatch

protected theorem serviceIf {service : State → State} (h : SwitchesSafely s t)
    (hservice : SwitchesSafely s t → SwitchesSafely s (service t)) : SwitchesSafely s (serviceIf k service t) := by
  obtain ⟨-, e⟩ | ⟨-, e⟩ := serviceIf_cases t k service <;> rw [e]
  · exact hservice h
  · exact h

protected theorem serviceEvents (h : SwitchesSafely s t) (ht : t.Resting) : SwitchesSafely s (serviceEvents t) :=
  (((h.serviceIf .edgeService).serviceIf .tickService).serviceIf
    (.pwmStartService (ht := (ht.serviceIf .edgeService).serviceIf .tickService))).serviceIf .pwmMatchService

protected theorem startTransition (h : SwitchesSafely s t) : SwitchesSafely s (startTransition g t) :=
  have hword : SwitchesSafely s (emit g.word none t) := h.record bankAfter_goWord
  have hsafe : SwitchesSafely s (makeSafe g (emit g.word none t)) := hword.switchOff.switchOff
  hsafe.keep

protected theorem arbitrate (h : SwitchesSafely s t) (harb : arbitrate t = .next u) : SwitchesSafely s u := by
  have hrecord : SwitchesSafely s (emit .arb none t) := h.record
  obtain ⟨-, ⟨-, rfl⟩ | ⟨-, hgo⟩⟩ := arbitrate_cases harb
  · exact hrecord.keep
  · generalize arbGoal t.targetState t.motorState = g at hgo
    have hduty : SwitchesSafely s (resetDutyFor g (emit .arb none t)) := by cases g <;> exact hrecord.keep
    obtain ⟨-, ⟨-, rfl⟩ | ⟨-, rfl⟩⟩ := go_cases hgo
    · exact hduty
    · exact hduty.startTransition

protected theorem cycleIdle (h : SwitchesSafely s t) (ht : t.Sequenced) (hidle : cycleIdle t = .next u) :
    SwitchesSafely s u := by
  unfold Machine.cycleIdle at hidle
  split at hidle
  case isTrue => exact Host.Outcome.next.inj hidle ▸ h
  case isFalse hrest =>
    have hresting : t.Resting := ⟨ht, not_not.mp (mt State.busy_iff.mpr hrest)⟩
    exact (h.serviceEvents hresting).arbitrate hidle

end State.SwitchesSafely

/-! ### The cycle -/

/-- From a boundary state a cycle switches safely: SEQ_STEP leaves a bank of R206, and the rest of the cycle begins there. -/
theorem State.AtBoundary.switchesSafely (h : s.AtBoundary) (hrun : runCycle s = .next t) : s.SwitchesSafely t := by
  obtain ⟨u, v, hseq, hidle, rfl⟩ := runCycle_cases hrun
  obtain ⟨u', hseq', hu⟩ := (h.sequenced.of_frame cycleFront_frame).exists_cycleSeq h.bounded.cycleFront.rule12
  obtain rfl := Host.Outcome.next.inj (hseq.symm.trans hseq')
  obtain ⟨-, hok⟩ := legal_of_bankRow h.sequenced.row
  exact (((SwitchesSafely.refl hok).cycleFront.cycleSeq hseq hu).cycleIdle hu hidle).keep

/-- Settles O59: a cycle from a boundary state completes in one, and every operation of it switches safely. -/
theorem noShootThroughAfterAnyMicroOperation : Obligations.NoShootThroughAfterAnyMicroOperation := by
  intro s hs
  have h := State.boundary_iff.mp hs
  obtain ⟨t, hrun, ht, -⟩ := h.exists_runCycle
  obtain ⟨rs, hlog, hall, hlast⟩ := h.switchesSafely hrun
  exact ⟨t, rs, hrun, State.boundary_iff.mpr ht, hlog, hall, hlast⟩

end Sys2Proof.Machine
end

section
/-! PROOFS. The timeline of a transition (R196, R202): what a delay leaves as it is at any input levels, what its last cycle
does, and the two kinds of transition put together from their delays. -/

namespace Sys2Proof.Machine

variable {s t : State} {rs : List Reg} {ls : List Bool} {b : Bool}

/-! ### Runs over given levels -/

theorem runLevels_append (ls ls' : List Bool) (s : State) :
    runLevels (ls ++ ls') s = andThen (runLevels ls s) (runLevels ls') := by
  induction ls generalizing s with
  | nil => rfl
  | cons level ls ih =>
    calc runLevels (level :: ls ++ ls') s
      _ = andThen (exec .cycle (driveRc level s)) fun u => andThen (runLevels ls u) (runLevels ls') :=
        congrArg (andThen _) (funext ih)
      _ = andThen (runLevels (level :: ls) s) (runLevels ls') := (andThen_assoc _ _ _).symm

/-- Driving `rc_in` before and after an operation, in place of its level, leaves what the operation may change. -/
theorem State.Frame.driveRc (h : Frame rs s t) : Frame rs (driveRc b s) (driveRc b t) where
  read := h.read
  cfg := h.cfg
  ops := h.ops
  stims := h.stims
  started := h.started
  trace := h.trace

/-- A frame up to the level of `rc_in`, which a run drives. -/
abbrev State.LevelFrame (rs : List Reg) (s t : State) : Prop := Frame rs (Machine.driveRc t.rcIn s) t

theorem State.LevelFrame.trans_same {u : State} (h : LevelFrame rs s t) (h' : LevelFrame rs t u) : LevelFrame rs s u :=
  (Frame.driveRc h).trans_same h'

/-- A cycle's frame, from the state before its level was driven. -/
theorem State.Frame.levelFrame (h : Frame rs (Machine.driveRc b s) t) : LevelFrame rs s t := by
  unfold LevelFrame
  rw [show t.rcIn = b from h.rcIn]
  exact h

theorem State.Frame.runLevels (hrun : Machine.runLevels ls s = .next t) : LevelFrame Reg.all s t := by
  induction ls generalizing s with
  | nil =>
    obtain rfl := Host.Outcome.next.inj hrun
    exact Frame.refl
  | cons level ls ih =>
    obtain ⟨u, hu, hrest⟩ := andThen_eq_next.mp hrun
    exact (Frame.runCycle hu).levelFrame.trans_same (ih hrest)

protected theorem State.AtBoundary.runCycle (h : s.AtBoundary) (hrun : runCycle s = .next t) : t.AtBoundary := by
  obtain ⟨u, hrun', hu, -⟩ := h.exists_runCycle
  exact Host.Outcome.next.inj (hrun'.symm.trans hrun) ▸ hu

protected theorem State.AtBoundary.runLevels (h : s.AtBoundary) (hrun : runLevels ls s = .next t) : t.AtBoundary := by
  induction ls generalizing s with
  | nil => exact Host.Outcome.next.inj hrun ▸ h
  | cons level ls ih =>
    obtain ⟨u, hu, hrest⟩ := andThen_eq_next.mp hrun
    exact ih (h.driveRc.runCycle hu) hrest

/-! ### Within a delay -/

theorem cycleIdle_of_busy (hbusy : s.phase ≠ .idle) : cycleIdle s = .next s := if_pos (State.busy_iff.mpr hbusy)

/-- A cycle that begins busy performs SEQ_STEP (R120). -/
theorem runCycle_of_busy (hbusy : s.phase ≠ .idle) :
    runCycle s = andThen (andThen (seqStep (cycleFront s)) cycleIdle) fun t => .next (endCycle t) := by
  have hfront : (cycleFront s).busy = true := State.busy_iff.mpr (cycleFront_frame.seq_eq.1.trans_ne hbusy)
  simp [runCycle, cycleSeq, hfront]

/-- From `s` to `t` the block has waited in a delay: only the cycle's own registers, the held flags and the counter of the
delay have changed (R196, R253). -/
structure State.Waited (s t : State) : Prop where
  frame : LevelFrame [.time, .rcPrev, .dutySh, .pwmCnt, .pend, .seqCnt] s t

namespace State.Waited

theorem trans {u : State} (h : s.Waited t) (h' : t.Waited u) : s.Waited u := ⟨h.frame.trans_same h'.frame⟩

theorem of_frame (h : Frame [.time, .rcPrev, .dutySh, .pwmCnt, .pend, .seqCnt] (Machine.driveRc b s) t) : s.Waited t :=
  ⟨h.levelFrame⟩

theorem phase_eq (h : s.Waited t) : t.phase = s.phase := h.frame.seq_eq.1
theorem tgt_eq (h : s.Waited t) : t.tgt = s.tgt := h.frame.seq_eq.2
theorem sw_eq (h : s.Waited t) : t.sw = s.sw := h.frame.sw_eq
theorem motorState_eq (h : s.Waited t) : t.motorState = s.motorState := h.frame.motorState_eq
theorem targetState_eq (h : s.Waited t) : t.targetState = s.targetState := h.frame.targetState_eq
theorem targetPower_eq (h : s.Waited t) : t.targetPower = s.targetPower := h.frame.read .targetPower (by decide)
theorem wdCnt_eq (h : s.Waited t) : t.wdCnt = s.wdCnt := h.frame.wdCnt_eq
theorem duty_eq (h : s.Waited t) : t.duty = s.duty := h.frame.duty_eq
theorem cfg_eq (h : s.Waited t) : t.cfg = s.cfg := h.frame.cfg

end State.Waited

/-- A cycle before the last of a delay counts it down (R196). -/
theorem exists_runCycle_waited (hbusy : s.phase ≠ .idle) (hcnt : 2 ≤ s.seqCnt) (b : Bool) :
    ∃ t, runCycle (driveRc b s) = .next t ∧ t.seqCnt = s.seqCnt - 1 ∧ s.Waited t := by
  have hfront : State.Frame _ (driveRc b s) (cycleFront (driveRc b s)) := cycleFront_frame
  have hrun := runCycle_of_busy (s := driveRc b s) hbusy
  generalize cycleFront (driveRc b s) = u at hfront hrun
  have hcnt' : u.seqCnt = s.seqCnt := hfront.seqCnt_eq
  have hphase : u.phase = s.phase := hfront.seq_eq.1
  have hcount : State.Frame [.seqCnt] u (writeSeqCnt (u.seqCnt - 1) (emit .seqStep none u)) :=
    State.Frame.emit.trans .writeSeqCnt
  have hstep : seqStep u = .next (writeSeqCnt (u.seqCnt - 1) (emit .seqStep none u)) :=
    seqStep_of_two_le (by omega)
  have hbusy' : (writeSeqCnt (u.seqCnt - 1) (emit .seqStep none u)).phase ≠ .idle := hphase.trans_ne hbusy
  refine ⟨_, ?_, congrArg (· - 1) hcnt', .of_frame ((hfront.trans hcount).trans .endCycle)⟩
  rw [hrun, hstep, andThen_next, cycleIdle_of_busy hbusy', andThen_next]

/-- A run that ends within a delay has only waited (R196, R253, R286). -/
theorem State.AtBoundary.exists_runLevels_waited (h : s.AtBoundary) (hbusy : s.phase ≠ .idle)
    (hlen : ls.length < s.seqCnt) :
    ∃ t, runLevels ls s = .next t ∧ t.AtBoundary ∧ t.seqCnt = s.seqCnt - ls.length ∧ s.Waited t := by
  induction ls generalizing s with
  | nil => exact ⟨s, rfl, h, rfl, .of_frame (b := s.rcIn) .refl⟩
  | cons level ls ih =>
    rw [List.length_cons] at hlen
    obtain ⟨u, hrun, hcnt, hwait⟩ := exists_runCycle_waited hbusy (by omega) level
    obtain ⟨t, hrest, ht, hcnt', hwait'⟩ :=
      ih (h.driveRc.runCycle hrun) (hwait.phase_eq.trans_ne hbusy) (by omega)
    refine ⟨t, ?_, ht, ?_, hwait.trans hwait'⟩
    · exact andThen_eq_next.mpr ⟨u, hrun, hrest⟩
    · rw [hcnt', hcnt, List.length_cons]
      omega

/-- Settles O35: a delay with n + 1 cycles left is longer than n cycles. -/
theorem delayHoldsUnderAnyInput : Obligations.DelayHoldsUnderAnyInput := by
  intro s ls hs hbusy hcnt
  obtain ⟨t, hrun, ht, hleft, hwait⟩ :=
    (State.boundary_iff.mp hs).exists_runLevels_waited hbusy (ls := ls) (by omega)
  exact ⟨t, hrun, by omega, hwait.phase_eq, hwait.tgt_eq, hwait.sw_eq, hwait.motorState_eq,
    hwait.targetState_eq, hwait.targetPower_eq, hwait.wdCnt_eq, hwait.duty_eq, State.boundary_iff.mpr ht⟩

/-! ### The end of a delay -/

protected theorem State.Frame.delayEnded : Frame [.seqCnt] s s.delayEnded where
  read r hr := by cases r with | seqCnt => exact absurd (.head _) hr | _ => rfl
  trace := List.suffix_cons _ _

/-- The rest of a cycle, from the sequencer's act at the end of a delay on (R120). -/
def cycleFromSeqAct (u : State) : Result := andThen (andThen (seqAct u) cycleIdle) fun t => .next (endCycle t)

/-- A cycle that begins busy with one cycle left (R120, R196). -/
theorem runCycle_of_one (hbusy : s.phase ≠ .idle) (hcnt : (cycleFront s).seqCnt = 1) :
    runCycle s = cycleFromSeqAct (cycleFront s).delayEnded := by
  rw [runCycle_of_busy hbusy, seqStep_of_one hcnt, cycleFromSeqAct]

/-- A run as long as a delay has waited, and in its last cycle the sequencer acts, right after SEQ_STEP's record (R196). -/
theorem State.AtBoundary.exists_runLevels_delayEnd (h : s.AtBoundary) (hbusy : s.phase ≠ .idle)
    (hlen : ls.length = s.seqCnt) :
    ∃ u earlier, runLevels ls s = cycleFromSeqAct u ∧ s.Waited u ∧
      u.trace = ⟨u.time, 0x84, none⟩ :: (earlier ++ s.trace) := by
  have hpos := h.sequenced.seqCnt_pos hbusy
  obtain rfl | ⟨ls, b, rfl⟩ := List.eq_nil_or_concat' ls
  · exact absurd hlen (Nat.ne_of_lt hpos)
  rw [List.length_append, List.length_singleton] at hlen
  obtain ⟨v, hrun, -, hcnt, hwait⟩ := h.exists_runLevels_waited hbusy (ls := ls) (by omega)
  have hfront : State.Frame _ (driveRc b v) _ := cycleFront_frame
  have hone : (cycleFront (driveRc b v)).seqCnt = 1 := hfront.seqCnt_eq.trans (show v.seqCnt = 1 by omega)
  have hlast : runLevels [b] v = runCycle (driveRc b v) := andThen_next_right _
  obtain ⟨earlier, htrace⟩ := ((State.Frame.driveRc hwait.frame).trans hfront).exists_newer
  refine ⟨(cycleFront (driveRc b v)).delayEnded, earlier, ?_, hwait.trans ?_, congrArg _ htrace⟩
  · rw [runLevels_append, hrun, andThen_next, hlast]
    exact runCycle_of_one (s := driveRc b v) (hwait.phase_eq.trans_ne hbusy) hone
  · exact .of_frame (hfront.trans .delayEnded)

/-- Where the sequencer's act leads from one delay to the next, the cycle ends there (R253). -/
theorem cycleFromSeqAct_of_busy {u v : State} (hact : seqAct u = .next v) (hbusy : v.phase ≠ .idle) :
    cycleFromSeqAct u = .next (endCycle v) := by
  rw [cycleFromSeqAct, hact, andThen_next, cycleIdle_of_busy hbusy, andThen_next]

/-- Where the sequencer's act releases the block, the events held are serviced in the same cycle, and MOTOR_STATE is what
the act left (R120, R255). -/
theorem State.AtBoundary.exists_release {u v : State} (h : s.AtBoundary) (hrun : runLevels ls s = cycleFromSeqAct u)
    (hact : seqAct u = .next v) (hidle : v.phase = .idle) :
    ∃ t later, runLevels ls s = .next t ∧ t.motorState = v.motorState ∧ t.pend = Events.none ∧ t.time = v.time ∧
      t.trace = later ++ v.trace := by
  obtain ⟨t, ht, -⟩ := h.exists_runLevels ls
  have hrest := hrun.symm.trans ht
  rw [cycleFromSeqAct, hact, andThen_next] at hrest
  obtain ⟨w, hw, hend⟩ := andThen_eq_next.mp hrest
  obtain rfl := Host.Outcome.next.inj hend
  have hframe := cycleIdle_frame hw
  obtain ⟨later, htrace⟩ := hframe.exists_newer
  have harb : arbitrate (serviceEvents v) = .next w :=
    (if_neg (mt State.busy_iff.mp (not_not.mpr hidle))).symm.trans hw
  exact ⟨_, later, ht, hframe.motorState_eq, (State.Frame.arbitrate harb).pend_eq.trans serviceEvents_pend,
    hframe.time_eq, htrace⟩

/-! ### A drive transition -/

/-- A busy block with a drive for target is on its way from Braking (R206). -/
theorem State.Sequenced.drive (h : s.Sequenced) (hbusy : s.phase ≠ .idle) (htgt : s.tgt ≠ .brake) :
    s.tgt = .fwd ∨ s.tgt = .bwd := by
  obtain ⟨-, -, ⟨htgt, -⟩ | ⟨htgt, -⟩⟩ | ⟨-, hbrake, -⟩ | ⟨-, hbrake, -⟩ := bankRow_busy h.row hbusy
  · exact .inl htgt
  · exact .inr htgt
  · exact absurd hbrake htgt
  · exact absurd hbrake htgt

/-- The cycle that ends the first dead time turns the low side on and starts the second (R197). -/
theorem State.AtBoundary.exists_firstDead_end (h : s.AtBoundary) (hphase : s.phase = .dead1) (htgt : s.tgt ≠ .brake)
    (hlen : ls.length = s.seqCnt) :
    ∃ t, runLevels ls s = .next t ∧ t.phase = .dead2 ∧ t.tgt = s.tgt ∧ t.motorState = s.motorState ∧
      t.sw = s.sw.set s.tgt.lowSide true ∧ t.seqCnt = s.cfg.dead := by
  have hbusy : s.phase ≠ .idle := hphase.trans_ne nofun
  obtain ⟨u, -, hrun, hwait, -⟩ := h.exists_runLevels_delayEnd hbusy hlen
  have hact := seqAct_of_dead1_drive (hwait.phase_eq.trans hphase) (hwait.tgt_eq ▸ h.sequenced.drive hbusy htgt)
  rw [endFirstDead_eq, hwait.tgt_eq] at hact
  refine ⟨_, hrun.trans (cycleFromSeqAct_of_busy hact nofun), rfl, rfl, hwait.motorState_eq, ?_, ?_⟩
  · exact congrArg (Switches.set · _ true) hwait.sw_eq
  · exact congrArg Config.Params.dead hwait.cfg_eq

/-- The cycle that ends the second dead time turns the high side on, right after SEQ_STEP's record, commits the target and
services what was held (R198, R255). -/
theorem State.AtBoundary.exists_secondDead_end (h : s.AtBoundary) (hphase : s.phase = .dead2) (htgt : s.tgt ≠ .brake)
    (hlen : ls.length = s.seqCnt) :
    ∃ t later earlier, runLevels ls s = .next t ∧ t.motorState = s.tgt ∧ t.pend = Events.none ∧
      t.trace = later ++ ⟨t.time, recordWord s.tgt.highSide.onWord, none⟩ :: ⟨t.time, 0x84, none⟩ ::
        (earlier ++ s.trace) := by
  have hbusy : s.phase ≠ .idle := hphase.trans_ne nofun
  obtain ⟨u, earlier, hrun, hwait, htrace⟩ := h.exists_runLevels_delayEnd hbusy hlen
  have hact := seqAct_of_dead2_drive (hwait.phase_eq.trans hphase) (hwait.tgt_eq ▸ h.sequenced.drive hbusy htgt)
  rw [commitDrive_eq, hwait.tgt_eq] at hact
  obtain ⟨t, later, ht, hmotor, hpend, htime, hlater⟩ := h.exists_release hrun hact rfl
  refine ⟨t, later, earlier, ht, hmotor, hpend, ?_⟩
  rw [hlater, htime]
  exact congrArg (later ++ _ :: ·) htrace

theorem recordWord_highSide {m : MotorState} (h : m = .fwd ∨ m = .bwd) :
    recordWord m.highSide.onWord = if m = .fwd then 0x20 else 0x22 := by
  obtain rfl | rfl := h <;> rfl

/-- A list cut where its first part has a given length. -/
theorem exists_append_of_le_length {n : Nat} (h : n ≤ ls.length) : ∃ xs ys, ls = xs ++ ys ∧ xs.length = n :=
  ⟨ls.take n, ls.drop n, (List.take_append_drop n ls).symm, List.length_take_of_le h⟩

/-- Settles O36: a run shorter than the first dead time has waited in it; a longer one ends it, and has then waited in the
second dead time or ended it as well. -/
theorem driveTransitionTakesTwoDeadTimes : Obligations.DriveTransitionTakesTwoDeadTimes := by
  intro s ls hs hphase htgt hcnt hlen
  have h := State.boundary_iff.mp hs
  have hdrive := h.sequenced.drive (hphase.trans_ne nofun) htgt
  by_cases hfirst : ls.length < s.cfg.dead
  · obtain ⟨t, hrun, ht, -, hwait⟩ := h.exists_runLevels_waited (hphase.trans_ne nofun) (hcnt ▸ hfirst)
    refine ⟨t, hrun, State.boundary_iff.mpr ht, fun _ => ⟨?_, hwait.tgt_eq, hwait.motorState_eq⟩,
      fun _ => hwait.sw_eq, fun _ _ => by omega, fun _ => by omega⟩
    exact (hwait.phase_eq.trans hphase).trans_ne nofun
  obtain ⟨ls, ls', rfl, hls⟩ := exists_append_of_le_length (not_lt.mp hfirst)
  rw [List.length_append, hls] at hlen ⊢
  obtain ⟨u, hrun, hphase', htgt', hmotor, hsw, hcnt'⟩ := h.exists_firstDead_end hphase htgt (hls.trans hcnt.symm)
  have hu := h.runLevels hrun
  have hpath : runLevels (ls ++ ls') s = runLevels ls' u := by rw [runLevels_append, hrun, andThen_next]
  by_cases hsecond : ls'.length < s.cfg.dead
  · obtain ⟨t, hrest, ht, -, hwait⟩ := hu.exists_runLevels_waited (hphase'.trans_ne nofun) (hcnt'.symm ▸ hsecond)
    have hlow := hwait.sw_eq.trans hsw
    refine ⟨t, hpath.trans hrest, State.boundary_iff.mpr ht,
      fun _ => ⟨?_, hwait.tgt_eq.trans htgt', hwait.motorState_eq.trans hmotor⟩, fun _ => by omega,
      fun _ _ => ⟨fun hfwd => ?_, fun hbwd => ?_⟩, fun _ => by omega⟩
    · exact (hwait.phase_eq.trans hphase').trans_ne nofun
    · rw [hlow, hfwd]
      rfl
    · rw [hlow, hbwd]
      rfl
  · obtain ⟨t, later, earlier, hrest, hmotor', hpend, htrace⟩ :=
      hu.exists_secondDead_end hphase' (htgt' ▸ htgt) (ls := ls') (by omega)
    obtain ⟨before, hbefore⟩ := (State.Frame.runLevels hrun).exists_newer
    refine ⟨t, hpath.trans hrest, State.boundary_iff.mpr (hu.runLevels hrest), fun _ => by omega, fun _ => by omega,
      fun _ _ => by omega, fun _ => ⟨hmotor'.trans htgt', hpend, later, earlier ++ before, ?_⟩⟩
    rw [htrace, htgt', recordWord_highSide hdrive, hbefore, List.append_assoc]
    rfl

/-! ### A braking transition -/

/-- The cycle that ends the dead time of a braking transition commits Braking and starts the settle delay (R199). -/
theorem State.AtBoundary.exists_brakeDead_end (h : s.AtBoundary) (hphase : s.phase = .dead1) (htgt : s.tgt = .brake)
    (hlen : ls.length = s.seqCnt) :
    ∃ t, runLevels ls s = .next t ∧ t.phase = .settle ∧ t.seqCnt = s.cfg.settle := by
  have hbusy : s.phase ≠ .idle := hphase.trans_ne nofun
  obtain ⟨u, -, hrun, hwait, -⟩ := h.exists_runLevels_delayEnd hbusy hlen
  have hact := seqAct_of_dead1_brake (hwait.phase_eq.trans hphase) (hwait.tgt_eq.trans htgt)
  rw [commitBrake_eq] at hact
  exact ⟨_, hrun.trans (cycleFromSeqAct_of_busy hact nofun), rfl, congrArg Config.Params.settle hwait.cfg_eq⟩

/-- The settle delay is that of Braking, with both low sides on (R206). -/
theorem State.Sequenced.of_settle (h : s.Sequenced) (hphase : s.phase = .settle) :
    s.tgt = .brake ∧ s.motorState = .brake ∧ s.sw = Switches.braking := by
  obtain ⟨-, hdead | hdead, -⟩ | ⟨hdead, -⟩ | ⟨-, hsettle⟩ := bankRow_busy h.row (hphase.trans_ne nofun)
  · exact nomatch hphase.symm.trans hdead
  · exact nomatch hphase.symm.trans hdead
  · exact nomatch hphase.symm.trans hdead
  · exact hsettle

/-- The cycle that ends the settle delay releases the block and services what was held (R200, R255). -/
theorem State.AtBoundary.exists_settle_end (h : s.AtBoundary) (hphase : s.phase = .settle)
    (hlen : ls.length = s.seqCnt) :
    ∃ t, runLevels ls s = .next t ∧ t.motorState = .brake ∧ t.pend = Events.none := by
  obtain ⟨htgt, hmotor, -⟩ := h.sequenced.of_settle hphase
  obtain ⟨u, -, hrun, hwait, -⟩ := h.exists_runLevels_delayEnd (hphase.trans_ne nofun) hlen
  have hact := seqAct_of_settle_brake (hwait.phase_eq.trans hphase) (hwait.tgt_eq.trans htgt)
  obtain ⟨t, -, ht, hmotor', hpend, -⟩ := h.exists_release hrun hact rfl
  exact ⟨t, ht, hmotor'.trans (hwait.motorState_eq.trans hmotor), hpend⟩

/-- Settles O37: a run shorter than the dead time has waited in it; a longer one commits Braking, and has then waited in the
settle delay or ended it as well. -/
theorem brakingTransitionTakesDeadTimeAndSettle : Obligations.BrakingTransitionTakesDeadTimeAndSettle := by
  intro s ls hs hphase htgt hcnt hlen
  have h := State.boundary_iff.mp hs
  have hsettle := h.bounded.rule12.settle_pos
  by_cases hfirst : ls.length < s.cfg.dead
  · obtain ⟨t, hrun, ht, -, hwait⟩ := h.exists_runLevels_waited (hphase.trans_ne nofun) (hcnt ▸ hfirst)
    refine ⟨t, hrun, State.boundary_iff.mpr ht, fun _ => ?_, fun _ => ⟨hwait.sw_eq, hwait.motorState_eq⟩,
      fun _ => by omega, fun _ => by omega, fun _ => by omega⟩
    exact (hwait.phase_eq.trans hphase).trans_ne nofun
  obtain ⟨ls, ls', rfl, hls⟩ := exists_append_of_le_length (not_lt.mp hfirst)
  rw [List.length_append, hls] at hlen ⊢
  obtain ⟨u, hrun, hphase', hcnt'⟩ := h.exists_brakeDead_end hphase htgt (hls.trans hcnt.symm)
  have hu := h.runLevels hrun
  have hpath : runLevels (ls ++ ls') s = runLevels ls' u := by rw [runLevels_append, hrun, andThen_next]
  by_cases hsecond : ls'.length < s.cfg.settle
  · obtain ⟨t, hrest, ht, -, hwait⟩ := hu.exists_runLevels_waited (hphase'.trans_ne nofun) (hcnt'.symm ▸ hsecond)
    have hphase'' := hwait.phase_eq.trans hphase'
    obtain ⟨-, hmotor, hsw⟩ := ht.sequenced.of_settle hphase''
    refine ⟨t, hpath.trans hrest, State.boundary_iff.mpr ht, fun _ => ?_, fun _ => by omega, fun _ => hmotor,
      fun _ _ => hsw, fun _ => by omega⟩
    exact hphase''.trans_ne nofun
  · obtain ⟨t, hrest, hmotor, hpend⟩ := hu.exists_settle_end hphase' (ls := ls') (by omega)
    exact ⟨t, hpath.trans hrest, State.boundary_iff.mpr (hu.runLevels hrest), fun _ => by omega, fun _ => by omega,
      fun _ => hmotor, fun _ _ => by omega, fun _ => hpend⟩

end Sys2Proof.Machine
end

section
/-! PROOFS. The PWM modulator (spec/45_pwm.md): what its two services do (R220, R222), what a cycle in which a drive goes on
does to the driven direction's high side, and the on-time of a period (R224 to R226). -/

namespace Sys2Proof.Machine

variable {s t : State} {m : MotorState} {n : Nat}

/-! ### PWM_START and PWM_MATCH -/

/-- With a duty above 0, PWM_START turns on the high side of the direction being driven (R220). -/
theorem pwmStartService_of_pos (hpos : 0 < s.dutySh) (hmotor : s.motorState = m) (hdrive : m = .fwd ∨ m = .bwd) :
    pwmStartService s = { s with
      pend := { s.pend with start := false }, sw := s.sw.set m.highSide true
      trace := ⟨s.time, recordWord m.highSide.onWord, none⟩ :: ⟨s.time, 0x50, none⟩ :: s.trace } := by
  obtain ⟨-, hfwd, e⟩ | ⟨-, hbwd, e⟩ | ⟨hnone, -⟩ := highSideOn_cases (emit .pwmStart none (clearPend .start s))
  · obtain rfl : m = .fwd := hmotor.symm.trans hfwd
    exact e
  · obtain rfl : m = .bwd := hmotor.symm.trans hbwd
    exact e
  · change s.dutySh = 0 ∨ s.motorState = .brake ∨ s.motorState = .uninit at hnone
    obtain rfl | rfl := hdrive <;> simp [hmotor, hpos.ne'] at hnone

/-- With no duty or no direction being driven, PWM_START only clears its flag (R220). -/
theorem pwmStartService_of_none (hnone : s.dutySh = 0 ∨ s.motorState = .brake ∨ s.motorState = .uninit) :
    pwmStartService s = { s with
      pend := { s.pend with start := false }, trace := ⟨s.time, 0x50, none⟩ :: s.trace } := by
  obtain ⟨hpos, hfwd, -⟩ | ⟨hpos, hbwd, -⟩ | ⟨-, e⟩ := highSideOn_cases (emit .pwmStart none (clearPend .start s))
  · change 0 < s.dutySh at hpos
    change s.motorState = .fwd at hfwd
    simp [hfwd, hpos.ne'] at hnone
  · change 0 < s.dutySh at hpos
    change s.motorState = .bwd at hbwd
    simp [hbwd, hpos.ne'] at hnone
  · exact e

/-- Settles O23: the two directions, and neither. -/
theorem pwmStartTurnsOnTheDrivenHighSide : Obligations.PwmStartTurnsOnTheDrivenHighSide := fun _ =>
  ⟨fun hpos hfwd => congrArg _ (pwmStartService_of_pos hpos hfwd (.inl rfl)),
    fun hpos hbwd => congrArg _ (pwmStartService_of_pos hpos hbwd (.inr rfl)),
    fun hnone => congrArg _ (pwmStartService_of_none hnone)⟩

/-- With a duty below the maximum and not Braking, PWM_MATCH turns both high sides off (R222). -/
theorem pwmMatchService_of_lt (hlt : s.dutySh < s.cfg.dutyMax) (hmotor : s.motorState ≠ .brake) :
    pwmMatchService s = { s with
      pend := { s.pend with pwmMatch := false }, sw := (s.sw.set .fh false).set .bh false
      trace := ⟨s.time, recordWord SwitchId.bh.offWord, none⟩ :: ⟨s.time, recordWord SwitchId.fh.offWord, none⟩ ::
        ⟨s.time, 0x51, none⟩ :: s.trace } := by
  obtain ⟨-, -, e⟩ | ⟨hmax | hbrake, -⟩ := highSidesOff_cases (emit .pwmMatch none (clearPend .pwmMatch s))
  · rw [pwmMatchService, e]
    simp only [switchOff, writeSw, emit, emitAt, clearPend, writePend]
    rfl
  · exact absurd hlt (Nat.not_lt.mpr hmax)
  · exact absurd hbrake hmotor

/-- At the maximum, or Braking, PWM_MATCH only clears its flag (R222). -/
theorem pwmMatchService_of_max (hmax : s.cfg.dutyMax ≤ s.dutySh ∨ s.motorState = .brake) :
    pwmMatchService s = { s with
      pend := { s.pend with pwmMatch := false }, trace := ⟨s.time, 0x51, none⟩ :: s.trace } := by
  obtain ⟨hlt, hmotor, -⟩ | ⟨-, e⟩ := highSidesOff_cases (emit .pwmMatch none (clearPend .pwmMatch s))
  · exact absurd hmax (not_or.mpr ⟨Nat.not_le.mpr hlt, hmotor⟩)
  · exact e

/-- Settles O24: off, or nothing. -/
theorem pwmMatchTurnsBothHighSidesOff : Obligations.PwmMatchTurnsBothHighSidesOff := fun _ =>
  ⟨fun hlt hmotor => congrArg _ (pwmMatchService_of_lt hlt hmotor),
    fun hmax => congrArg _ (pwmMatchService_of_max hmax)⟩

/-! ### The flags of the modulator that LATCH leaves -/

/-- PWM_ADV gives a cycle start exactly at the last count of the period (R125). -/
theorem advancePwm_ev_start : (advancePwm s).ev.start = (s.pwmCnt == s.cfg.pwmPeriod - 1) := by
  obtain ⟨hlast, e⟩ | ⟨hne, e⟩ := countPwm_cases (emit .pwmAdv none s)
  · rw [advancePwm, e]
    exact (beq_iff_eq.mpr hlast).symm
  · rw [advancePwm, e]
    exact (beq_eq_false_iff_ne.mpr hne).symm

/-- A cycle's LATCH leaves START pending if it was, or if the cycle begins at the last count of the period (R125, R126). -/
theorem cycleFront_pend_start :
    (cycleFront s).pend.start = (s.pend.start || s.pwmCnt == s.cfg.pwmPeriod - 1) := by
  refine (latchEvents_pend_get .start _).trans ?_
  rw [State.Frame.advancePwm.pend_eq]
  simp [advanceTime, sampleInput, Events.get, advancePwm_ev_start]

/-- A cycle's LATCH leaves MATCH pending if it was, or if the new count is the new duty (R125, R126). -/
theorem cycleFront_pend_pwmMatch :
    (cycleFront s).pend.pwmMatch = (s.pend.pwmMatch || (cycleFront s).pwmCnt == (cycleFront s).dutySh) := by
  refine (latchEvents_pend_get .pwmMatch _).trans ?_
  rw [State.Frame.advancePwm.pend_eq, cycleFront, State.Frame.latchEvents.pwmCnt_eq, State.Frame.latchEvents.dutySh_eq]
  rfl

/-! ### The services of the modulator on the driven direction's high side -/

theorem get_highSide_of_off (hdrive : m = .fwd ∨ m = .bwd) (w : Switches) :
    ((w.set .fh false).set .bh false).get m.highSide = false := by
  obtain rfl | rfl := hdrive <;> rfl

/-- While driving, PWM_START turns the high side on where there is a duty, and else leaves it (R220). -/
theorem serviceIf_pwmStart_highSide (hmotor : s.motorState = m) (hdrive : m = .fwd ∨ m = .bwd) :
    (serviceIf .start pwmStartService s).sw.get m.highSide = true ↔
      s.sw.get m.highSide = true ∨ s.pend.start = true ∧ 0 < s.dutySh := by
  obtain ⟨hset, e⟩ | ⟨hclear, e⟩ := serviceIf_cases s .start pwmStartService <;> rw [e]
  · change s.pend.start = true at hset
    by_cases hpos : 0 < s.dutySh
    · simp [pwmStartService_of_pos hpos hmotor hdrive, hset, hpos]
    · simp [pwmStartService_of_none (.inl (Nat.eq_zero_of_not_pos hpos)), hpos]
  · change s.pend.start = false at hclear
    simp [hclear]

/-- While driving, PWM_MATCH turns the high side off where the duty is below the maximum, and else leaves it (R222). -/
theorem serviceIf_pwmMatch_highSide (hmotor : s.motorState = m) (hdrive : m = .fwd ∨ m = .bwd) :
    (serviceIf .pwmMatch pwmMatchService s).sw.get m.highSide = true ↔
      s.sw.get m.highSide = true ∧ ¬ (s.pend.pwmMatch = true ∧ s.dutySh < s.cfg.dutyMax) := by
  have hbrake : s.motorState ≠ .brake := by obtain rfl | rfl := hdrive <;> simp [hmotor]
  obtain ⟨hset, e⟩ | ⟨hclear, e⟩ := serviceIf_cases s .pwmMatch pwmMatchService <;> rw [e]
  · change s.pend.pwmMatch = true at hset
    by_cases hlt : s.dutySh < s.cfg.dutyMax
    · simp [pwmMatchService_of_lt hlt hbrake, get_highSide_of_off hdrive, hset, hlt]
    · simp [pwmMatchService_of_max (.inl (Nat.le_of_not_lt hlt)), hlt]
  · change s.pend.pwmMatch = false at hclear
    simp [hclear]

/-- A tick served with the watchdog above 0 takes one from it and leaves the target (R180). -/
theorem serviceIf_tick_of_pos (hwd : s.pend.tick = true → 0 < s.wdCnt) :
    (serviceIf .tick tickService s).targetState = s.targetState ∧
      (serviceIf .tick tickService s).wdCnt = s.wdCnt - s.pend.tick.toNat := by
  obtain ⟨hset, e⟩ | ⟨hclear, e⟩ := serviceIf_cases s .tick tickService <;> rw [e]
  · change s.pend.tick = true at hset
    rw [tickService_of_pos (hwd hset), hset]
    exact ⟨rfl, rfl⟩
  · change s.pend.tick = false at hclear
    rw [hclear]
    exact ⟨rfl, rfl⟩

/-- SERVICE while driving, with no edge and no watchdog force: TICK counts down, then PWM_START and PWM_MATCH in this order
decide on the high side (R255). -/
theorem serviceEvents_while_driving (hmotor : s.motorState = m) (hdrive : m = .fwd ∨ m = .bwd)
    (hedge : s.pend.edge = false) (hwd : s.pend.tick = true → 0 < s.wdCnt) :
    (serviceEvents s).targetState = s.targetState ∧ (serviceEvents s).wdCnt = s.wdCnt - s.pend.tick.toNat ∧
      ((serviceEvents s).sw.get m.highSide = true ↔
        (s.sw.get m.highSide = true ∨ s.pend.start = true ∧ 0 < s.dutySh) ∧
          ¬ (s.pend.pwmMatch = true ∧ s.dutySh < s.cfg.dutyMax)) := by
  have hskip : serviceIf .edge edgeService s = s := if_neg (Bool.eq_false_iff.mp hedge)
  obtain ⟨htarget, hcnt⟩ := serviceIf_tick_of_pos hwd
  have hticked : State.Frame _ s (serviceIf .tick tickService s) := .serviceIf .tickService
  have htickPend : (serviceIf .tick tickService s).pend = s.pend.set .tick false := serviceIf_pend tickService_pend
  have hstarted : State.Frame _ _ (serviceIf .start pwmStartService (serviceIf .tick tickService s)) :=
    .serviceIf .pwmStartService
  have hstartPend := serviceIf_pend (pwmStartService_pend (s := serviceIf .tick tickService s))
  have hmatched : State.Frame _ _ (serviceEvents s) := .serviceIf .pwmMatchService
  have hmotor' := hticked.motorState_eq.trans hmotor
  rw [serviceEvents, hskip] at hmatched ⊢
  have hlater := hstarted.trans_same hmatched
  refine ⟨hlater.targetState_eq.trans htarget, hlater.wdCnt_eq.trans hcnt, ?_⟩
  rw [serviceIf_pwmMatch_highSide (hstarted.motorState_eq.trans hmotor') hdrive,
    serviceIf_pwmStart_highSide hmotor' hdrive, hstartPend, htickPend, hstarted.dutySh_eq, hstarted.cfg,
    hticked.dutySh_eq, hticked.cfg, hticked.sw_eq]
  rfl

/-! ### The ticks of the cycles to come -/

/-- The ticks of the next `n` cycles (R124). -/
def State.ticksIn (n : Nat) (s : State) : Nat := (s.time % 2 ^ s.cfg.tickShift + n) / 2 ^ s.cfg.tickShift

/-- The tick lies inside the time counter, so that TIME's wrap is also a tick (R12, R124). -/
theorem nextTime_mod (hcfg : s.cfg.Rule12) :
    nextTime s % 2 ^ s.cfg.tickShift = (s.time + 1) % 2 ^ s.cfg.tickShift := by
  obtain ⟨-, -, -, ⟨-, hshift⟩, -⟩ := hcfg
  exact Nat.mod_mod_of_dvd _ (Nat.pow_dvd_pow 2 hshift.le)

theorem isTick_nextTime (hcfg : s.cfg.Rule12) :
    isTick s.cfg (nextTime s) = decide ((s.time + 1) % 2 ^ s.cfg.tickShift = 0) := by
  rw [isTick, nextTime_mod hcfg]
  rfl

theorem mod_add_succ_div {p : Nat} (hpos : 0 < p) (a n : Nat) :
    (a % p + (n + 1)) / p = (decide ((a + 1) % p = 0)).toNat + ((a + 1) % p + n) / p := by
  rw [← Nat.mod_add_mod a p 1]
  have hlt := Nat.mod_lt a hpos
  generalize a % p = r at hlt
  by_cases hwrap : r + 1 = p
  · rw [hwrap, Nat.mod_self, show r + (n + 1) = 0 + n + p by omega, Nat.add_div_right _ hpos]
    exact Nat.add_comm ..
  · rw [Nat.mod_eq_of_lt (show r + 1 < p by omega), ← Nat.add_right_comm, Nat.add_assoc]
    exact (Nat.zero_add _).symm

/-- The ticks of the next `n + 1` cycles are that of the next cycle and those of the `n` cycles after it. -/
theorem ticksIn_succ (hcfg : s.cfg.Rule12) (hsame : t.cfg = s.cfg) (htime : t.time = nextTime s) (n : Nat) :
    s.ticksIn (n + 1) = (isTick s.cfg (nextTime s)).toNat + t.ticksIn n := by
  rw [isTick_nextTime hcfg]
  unfold State.ticksIn
  rw [htime, hsame, nextTime_mod hcfg]
  exact mod_add_succ_div (Nat.two_pow_pos _) s.time n

/-- However TIME stands to the ticks, a run of cycles holds at most one tick more than it holds whole tick periods after its
first cycle (R124). -/
theorem ticksIn_succ_le (n : Nat) (s : State) : s.ticksIn (n + 1) ≤ n / 2 ^ s.cfg.tickShift + 1 := by
  have hpos : 0 < 2 ^ s.cfg.tickShift := Nat.two_pow_pos _
  have hlt := Nat.mod_lt s.time hpos
  calc s.ticksIn (n + 1)
    _ ≤ (n + 2 ^ s.cfg.tickShift) / 2 ^ s.cfg.tickShift := Nat.div_le_div_right (by omega)
    _ = n / 2 ^ s.cfg.tickShift + 1 := Nat.add_div_right _ hpos

/-! ### A cycle in which the drive goes on -/

/-- The block drives in direction `m`, has reached its target, and the watchdog outlasts the ticks of the next `n` cycles. -/
structure State.DrivesFor (m : MotorState) (n : Nat) (s : State) : Prop where
  atBoundary : s.AtBoundary
  idle : s.phase = .idle
  drive : m = .fwd ∨ m = .bwd
  motorState : s.motorState = m
  targetState : s.targetState = m
  ticks : s.ticksIn n ≤ s.wdCnt

/-- None of this reads the level of `rc_in`. -/
protected theorem State.DrivesFor.driveRc {b : Bool} (h : s.DrivesFor m n) : (driveRc b s).DrivesFor m n :=
  { h with atBoundary := h.atBoundary.driveRc }

/-- With the target reached ARB only follows the decoded power (R240). -/
theorem arbitrate_of_reached (htarget : s.targetState = s.motorState) (hinit : s.motorState ≠ .uninit) :
    arbitrate s = .next (writeDuty s.targetPower (emit .arb none s)) := by
  simp [arbitrate, arbDecide, htarget, hinit]

/-- An idle cycle in which SERVICE leaves the target reached ends as SERVICE leaves it, but for DUTY (R240). -/
theorem exists_runCycle_of_reached (hidle : s.phase = .idle)
    (hreached : (serviceEvents (cycleFront s)).targetState = s.motorState) (hinit : s.motorState ≠ .uninit) :
    ∃ t, runCycle s = .next t ∧ State.Frame [.duty] (serviceEvents (cycleFront s)) t := by
  have hmotor : (serviceEvents (cycleFront s)).motorState = s.motorState :=
    (cycleFront_frame.trans serviceEvents_frame).motorState_eq
  have harb := arbitrate_of_reached (hreached.trans hmotor.symm) (hmotor.trans_ne hinit)
  refine ⟨_, by rw [runCycle_of_idle hidle, harb, andThen_next], ?_⟩
  exact (State.Frame.emit.trans .writeDuty).trans .endCycle

/-- In a cycle without an edge the drive goes on; the high side is turned on by a cycle start with a duty, and after that
off by a match with a duty below the maximum (R220, R222, R255). -/
theorem State.DrivesFor.exists_runCycle (h : s.DrivesFor m (n + 1)) (hlevel : s.rcIn = s.rcPrev) :
    ∃ t, runCycle s = .next t ∧ t.DrivesFor m n ∧ t.rcPrev = s.rcPrev ∧
      (t.sw.get m.highSide = true ↔
        (s.sw.get m.highSide = true ∨ s.pwmCnt = s.cfg.pwmPeriod - 1 ∧ 0 < t.dutySh) ∧
          ¬ (t.pwmCnt = t.dutySh ∧ t.dutySh < 255)) := by
  have hrule := h.atBoundary.bounded.rule12
  have hnone : s.pend = Events.none := h.atBoundary.pend h.idle
  have hfront : State.Frame _ s (cycleFront s) := cycleFront_frame
  have hedge : (cycleFront s).pend.edge = false := by rw [cycleFront_pend_edge, hnone, hlevel, bne_self_eq_false]; rfl
  have htick : (cycleFront s).pend.tick = isTick s.cfg (nextTime s) := by rw [cycleFront_pend_tick, hnone]; rfl
  have hticks := ticksIn_succ hrule hfront.cfg cycleFront_time n
  have hleft := h.ticks
  rw [hticks, ← htick, ← hfront.wdCnt_eq] at hleft
  have hwd : (cycleFront s).pend.tick = true → 0 < (cycleFront s).wdCnt := fun hset => by
    rw [hset, Bool.toNat_true] at hleft
    omega
  obtain ⟨htarget, hcnt, hhigh⟩ :=
    serviceEvents_while_driving (hfront.motorState_eq.trans h.motorState) h.drive hedge hwd
  replace htarget := (htarget.trans hfront.targetState_eq).trans h.targetState
  have hinit : s.motorState ≠ .uninit := by obtain rfl | rfl := h.drive <;> simp [h.motorState]
  obtain ⟨t, hrun, hlast⟩ := exists_runCycle_of_reached h.idle (htarget.trans h.motorState.symm) hinit
  have hserved := (serviceEvents_frame (s := cycleFront s)).trans hlast
  have hcycle := hfront.trans hserved
  refine ⟨t, hrun, ?_, (hserved.rcPrev_eq.trans cycleFront_rcPrev).trans hlevel, ?_⟩
  · exact
      { atBoundary := h.atBoundary.runCycle hrun
        idle := hcycle.seq_eq.1.trans h.idle
        drive := h.drive
        motorState := hcycle.motorState_eq.trans h.motorState
        targetState := hlast.targetState_eq.trans htarget
        ticks := by
          have hsame : t.ticksIn n = (cycleFront s).ticksIn n := by
            rw [State.ticksIn, State.ticksIn, hserved.cfg, hserved.time_eq]
          rw [hsame, hlast.wdCnt_eq, hcnt]
          omega }
  · obtain ⟨-, -, -, -, -, hmax, -⟩ := hcycle.cfg.symm ▸ hrule
    rw [hlast.sw_eq, hhigh, cycleFront_pend_start, cycleFront_pend_pwmMatch, hnone, hfront.sw_eq, hserved.dutySh_eq,
      hserved.pwmCnt_eq, ← hserved.cfg, hmax]
    simp [Events.none]

/-! ### The period -/

/-- The high side of `m` is on for the first DUTY_SH counts of the period, and for all of it at the maximum (R224 to
R226). -/
def State.FollowsDuty (m : MotorState) (s : State) : Prop :=
  s.sw.get m.highSide = true ↔ s.pwmCnt < s.dutySh ∨ s.dutySh = 255

/-- The first cycle of a period turns the high side on, unless the duty is 0 (R125, R220, R225). -/
theorem State.DrivesFor.exists_firstCycle (h : s.DrivesFor m (n + 1)) (hlast : s.pwmCnt = s.cfg.pwmPeriod - 1) :
    ∃ t, exec .cycle (driveRc s.rcPrev s) = .next t ∧ t.DrivesFor m n ∧ t.rcPrev = s.rcPrev ∧ t.FollowsDuty m ∧
      t.pwmCnt = 0 ∧ t.dutySh = s.duty := by
  obtain ⟨t, hrun, ht, hprev, hhigh⟩ := (h.driveRc (b := s.rcPrev)).exists_runCycle rfl
  obtain ⟨hcnt, hduty⟩ := runCycle_pwm_of_last hrun hlast
  refine ⟨t, hrun, ht, hprev, ?_, hcnt, hduty⟩
  have hstart : (driveRc s.rcPrev s).pwmCnt = (driveRc s.rcPrev s).cfg.pwmPeriod - 1 := hlast
  rw [FollowsDuty, hhigh, hcnt]
  simp only [hstart, true_and]
  omega

/-- A later cycle of the period turns the high side off when its count reaches the duty, and never on (R222, R224, R226). -/
theorem State.DrivesFor.exists_laterCycle (h : s.DrivesFor m (n + 1)) (hne : s.pwmCnt ≠ s.cfg.pwmPeriod - 1)
    (hfollows : s.FollowsDuty m) :
    ∃ t, exec .cycle (driveRc s.rcPrev s) = .next t ∧ t.DrivesFor m n ∧ t.rcPrev = s.rcPrev ∧ t.FollowsDuty m ∧
      t.pwmCnt = s.pwmCnt + 1 ∧ t.dutySh = s.dutySh := by
  obtain ⟨t, hrun, ht, hprev, hhigh⟩ := (h.driveRc (b := s.rcPrev)).exists_runCycle rfl
  obtain ⟨hcnt, hduty⟩ := runCycle_pwm_of_ne_last hrun hne (h.atBoundary.pwmCnt_lt_255 hne)
  refine ⟨t, hrun, ht, hprev, ?_, hcnt, hduty⟩
  change t.pwmCnt = s.pwmCnt + 1 at hcnt
  change t.dutySh = s.dutySh at hduty
  change _ ↔ (s.sw.get m.highSide = true ∨ s.pwmCnt = s.cfg.pwmPeriod - 1 ∧ _) ∧ _ at hhigh
  rw [FollowsDuty] at hfollows ⊢
  rw [hhigh, hfollows, hcnt, hduty]
  have hmax := h.atBoundary.bounded.dutySh
  omega

/-- As long as the period lasts, the high side goes on following the duty that was loaded at its beginning. -/
theorem State.DrivesFor.exists_runLevels (h : s.DrivesFor m n) (hfollows : s.FollowsDuty m)
    (hperiod : s.pwmCnt + n < s.cfg.pwmPeriod) :
    ∃ t, runLevels (List.replicate n s.rcPrev) s = .next t ∧ t.DrivesFor m 0 ∧ t.FollowsDuty m ∧
      t.pwmCnt = s.pwmCnt + n ∧ t.dutySh = s.dutySh := by
  induction n generalizing s with
  | zero => exact ⟨s, rfl, h, hfollows, rfl, rfl⟩
  | succ n ih =>
    obtain ⟨u, hrun, hu, hprev, hfollows', hcnt, hduty⟩ := h.exists_laterCycle (by omega) hfollows
    have hcfg : u.cfg = s.cfg := (Frame.runCycle hrun).cfg
    obtain ⟨t, hrest, ht, hfollows'', hcnt', hduty'⟩ := ih hu hfollows' (by rw [hcfg]; omega)
    rw [hprev] at hrest
    exact ⟨t, andThen_eq_next.mpr ⟨u, hrun, hrest⟩, ht, hfollows'', by omega, hduty'.trans hduty⟩

/-- While driving, the row of R206 leaves only the high side of the direction open. -/
theorem State.DrivesFor.sw_of_fwd (h : s.DrivesFor .fwd n) :
    s.sw = { fh := s.sw.fh, fl := true, bh := false, bl := false } := by
  have hrow := h.motorState ▸ h.idle ▸ h.atBoundary.sequenced.row
  obtain e | e : s.sw = Switches.fwdLow ∨ s.sw = Switches.fwdBoth := by simpa using bankRow_idle.mp hrow
  all_goals rw [e]; rfl

theorem State.DrivesFor.sw_of_bwd (h : s.DrivesFor .bwd n) :
    s.sw = { fh := false, fl := false, bh := s.sw.bh, bl := true } := by
  have hrow := h.motorState ▸ h.idle ▸ h.atBoundary.sequenced.row
  obtain e | e : s.sw = Switches.bwdLow ∨ s.sw = Switches.bwdBoth := by simpa using bankRow_idle.mp hrow
  all_goals rw [e]; rfl

/-- Settles O27: the first cycle of the period loads the duty, the others follow it, and the row of R206 gives the three
other switches. -/
theorem onTimeOfAPeriodIsItsDuty : Obligations.OnTimeOfAPeriodIsItsDuty := by
  intro s n hs hidle hdrive htarget hlast hpos hperiod hwd
  obtain ⟨n, rfl⟩ : ∃ k, n = k + 1 := ⟨n - 1, by omega⟩
  have hdrives : s.DrivesFor s.motorState (n + 1) :=
    ⟨State.boundary_iff.mp hs, hidle, hdrive, rfl, htarget, (ticksIn_succ_le n s).trans hwd⟩
  obtain ⟨u, hrun, hu, hprev, hfollows, hzero, hduty⟩ := hdrives.exists_firstCycle hlast
  have hcfg : u.cfg = s.cfg := (State.Frame.runCycle hrun).cfg
  obtain ⟨t, hrest, ht, hfollows', hcnt, hduty'⟩ := hu.exists_runLevels hfollows (by rw [hcfg]; omega)
  rw [hprev] at hrest
  have hhigh : t.sw.get s.motorState.highSide = decide (n + 1 ≤ s.duty ∨ s.duty = 255) := by
    rw [State.FollowsDuty, hcnt, hzero, hduty', hduty] at hfollows'
    rw [Bool.eq_iff_iff, hfollows', decide_eq_true_iff, Nat.zero_add, Nat.succ_le_iff]
  refine ⟨t, andThen_eq_next.mpr ⟨u, hrun, hrest⟩, ht.idle, ht.motorState, fun hfwd => ?_, fun hbwd => ?_⟩
  · rw [hfwd] at ht hhigh
    exact hhigh ▸ ht.sw_of_fwd
  · rw [hbwd] at ht hhigh
    exact hhigh ▸ ht.sw_of_bwd

end Sys2Proof.Machine
end

section
/-! PROOFS. The arbiter (spec/46_arbiter.md): what ARB asks for when the target is not reached (R240, R241), and that a
reversal passes through Braking (R242). -/

namespace Sys2Proof.Machine

variable {s : State} {g : GoTarget} {target m : MotorState}

/-! ### What ARB asks for -/

/-- Where no drive is to start from Braking, ARB asks for Braking (R240). -/
theorem arbGoal_eq_brake (hfwd : ¬ (target = .fwd ∧ m = .brake)) (hbwd : ¬ (target = .bwd ∧ m = .brake)) :
    arbGoal target m = .brake := by
  unfold arbGoal
  split
  · exact absurd ⟨rfl, rfl⟩ hfwd
  · exact absurd ⟨rfl, rfl⟩ hbwd
  · rfl

/-- ARB never asks for the state the motor is in (R241). -/
theorem arbGoal_state_ne (hinit : target ≠ .uninit) (hne : target ≠ m) : (arbGoal target m).state ≠ m := by
  by_cases hm : m = .brake
  · subst hm
    cases target with
    | uninit => exact absurd rfl hinit
    | fwd | bwd => exact nofun
    | brake => exact absurd rfl hne
  · rw [arbGoal_eq_brake (mt And.right hm) (mt And.right hm)]
    exact Ne.symm hm

/-- A GO that leads to a drive is not the braking one (R84). -/
theorem GoTarget.ne_brake_of_drive (h : g.state = .fwd ∨ g.state = .bwd) : g ≠ .brake := by
  rintro rfl
  exact h.elim nofun nofun

/-- The duty reset stands before every drive transition (R243). -/
theorem resetDutyFor_duty (hg : g ≠ .brake) : (resetDutyFor g s).duty = 0 := by
  cases g with
  | fwd | bwd => rfl
  | brake => exact absurd rfl hg

/-- The start of a transition leaves the duty (R191). -/
theorem startTransition_duty : (startTransition g s).duty = s.duty := State.Frame.startTransition.duty_eq

/-! ### What ARB does -/

/-- Up to its GO, ARB has written DUTY only (R243). -/
theorem resetDutyFor_emit_frame : State.Frame [.duty] s (resetDutyFor g (emit .arb none s)) :=
  State.Frame.emit.trans .resetDutyFor

/-- ARB with an Uninitialized target is a fault with reason 3 (R240, R258). -/
theorem arbitrate_of_uninit (htarget : s.targetState = .uninit) :
    arbitrate s = .fault (.targetUninit { s with
      trace := ⟨s.time, 0xCF, some 3⟩ :: ⟨s.time, 0x60, none⟩ :: s.trace }) :=
  if_pos htarget

/-- On a mismatch ARB performs one GO, after the duty reset that belongs to it (R240, R243). -/
theorem arbitrate_of_unreached (hinit : s.targetState ≠ .uninit) (hne : s.targetState ≠ s.motorState)
    (hg : arbGoal s.targetState s.motorState = g) :
    arbitrate s = go g (resetDutyFor g (emit .arb none s)) := by
  subst hg
  exact (if_neg hinit).trans (if_pos hne)

/-- On a mismatch an idle ARB starts a transition: what it asks for is never reached, so that its GO is no no-op (R191,
R241). -/
theorem arbitrate_starts_transition (hidle : s.phase = .idle) (hinit : s.targetState ≠ .uninit)
    (hne : s.targetState ≠ s.motorState) (hg : arbGoal s.targetState s.motorState = g) :
    arbitrate s = .next (startTransition g (resetDutyFor g (emit .arb none s))) := by
  have hbefore : State.Frame [.duty] s (resetDutyFor g (emit .arb none s)) := resetDutyFor_emit_frame
  have hgoal : g.state ≠ s.motorState := hg ▸ arbGoal_state_ne hinit hne
  rw [arbitrate_of_unreached hinit hne hg]
  exact go_of_unreached (hbefore.seq_eq.1.trans hidle) (hbefore.motorState_eq.trans_ne hgoal.symm)

/-- A transition that ARB starts outside Braking leads to Braking and turns both high sides off (R194, R242). -/
theorem startTransition_of_not_braking (hm : s.motorState ≠ .brake) (hg : arbGoal s.targetState s.motorState = g) :
    g.state = .brake ∧
      (startTransition g (resetDutyFor g (emit .arb none s))).sw = { s.sw with fh := false, bh := false } := by
  obtain rfl : g = .brake := hg.symm.trans (arbGoal_eq_brake (mt And.right hm) (mt And.right hm))
  exact ⟨rfl, rfl⟩

/-- Settles O38: the fault, the duty update, and the three GO operations, each on the state that R240 gives it. -/
theorem arbComparesTargetAndMotorState : Obligations.ArbComparesTargetAndMotorState := by
  intro s
  refine ⟨arbitrate_of_uninit, fun hinit hreached => ?reached, fun hfwd hbrake => ?fwd, fun hbwd hbrake => ?bwd,
    fun hinit hne hfwd hbwd => ?brake⟩
  case reached => exact arbitrate_of_reached hreached (hreached ▸ hinit)
  case fwd =>
    exact arbitrate_of_unreached (g := .fwd) (by simp [hfwd]) (by simp [hfwd, hbrake]) (by rw [hfwd, hbrake]; rfl)
  case bwd =>
    exact arbitrate_of_unreached (g := .bwd) (by simp [hbwd]) (by simp [hbwd, hbrake]) (by rw [hbwd, hbrake]; rfl)
  case brake => exact arbitrate_of_unreached hinit hne (arbGoal_eq_brake hfwd hbwd)

/-- Settles O39: with the target reached only DUTY is written; on a mismatch a transition to `arbGoal` starts, which is a
drive in Braking only. -/
theorem reversalsPassThroughBraking : Obligations.ReversalsPassThroughBraking := by
  intro s hidle hinit
  by_cases hreached : s.targetState = s.motorState
  · refine ⟨_, arbitrate_of_reached hreached (hreached ▸ hinit), rfl, iff_of_true hreached hidle, absurd hidle,
      fun hm ht => ?_, fun hm ht => ?_, absurd hidle⟩
    all_goals simp [hm, ht] at hreached
  · obtain ⟨g, hg⟩ : ∃ g, arbGoal s.targetState s.motorState = g := ⟨_, rfl⟩
    have hbefore : State.Frame [.duty] s (resetDutyFor g (emit .arb none s)) := resetDutyFor_emit_frame
    have hgoal : g.state ≠ s.motorState := hg ▸ arbGoal_state_ne hinit hreached
    refine ⟨_, arbitrate_starts_transition hidle hinit hreached hg, (hbefore.trans .startTransition).motorState_eq,
      iff_of_false hreached nofun, fun _ => ⟨rfl, hgoal, congrArg Config.Params.dead hbefore.cfg⟩,
      fun hm _ => startTransition_of_not_braking (by simp [hm]) hg,
      fun hm _ => startTransition_of_not_braking (by simp [hm]) hg, fun _ hdrive => ?_⟩
    have hne : g ≠ .brake := GoTarget.ne_brake_of_drive hdrive
    exact ⟨arbGoal_ne_brake (hg.trans_ne hne), startTransition_duty.trans (resetDutyFor_duty hne)⟩

end Sys2Proof.Machine
end

section
/-! PROOFS. Events and conditions (spec/60_exceptions.md): what a condition record changes (R250, R251), which traces are
refused (R250), the period that no word gives (R268), and the events of a cycle: held while it stays busy (R253), serviced
where it is idle (R255). -/

namespace Sys2Proof.Machine

variable {s t : State}

/-! ### Condition records -/

/-- The reason number of a COND FAULT performed on its own is one of the four of R258 (log 14). -/
theorem freeReasonNumber_mem_four (s : State) : 1 ≤ freeReasonNumber s ∧ freeReasonNumber s ≤ 4 :=
  ⟨Nat.le_add_left 1 _, (Config.faultRecordReason s.free).isLt⟩

/-- Settles O51: each condition record is one `emit` of its word; COND FAULT takes a free value besides. -/
theorem conditionRecordsChangeOnlyTheTrace : Obligations.ConditionRecordsChangeOnlyTheTrace := by
  intro s
  obtain ⟨hpos, hle⟩ := freeReasonNumber_mem_four s
  exact ⟨rfl, rfl, rfl, rfl, rfl, rfl, freeReasonNumber s, hpos, hle, rfl⟩

/-! ### Malformed traces -/

/-- The condition codes of R250 that no row of the table has. -/
theorem reservedConditionWord_iff :
    ∀ w : OpWord, reservedConditionWord w = true ↔ w = 0xC0 ∨ w = 0xC3 ∨ (0xC8 ≤ w ∧ w ≤ 0xCE) := by
  decide

theorem traceOk_eq_false_iff {tr : List Record} :
    traceOk tr = false ↔ ∃ r ∈ tr, reservedConditionWord r.word = true := by
  simp [traceOk]

/-- Loading refuses a trace for no other reason than that it is malformed (R250). -/
theorem loadTrace_eq_refused_iff {tr : List Record} :
    loadTrace tr s = .refused .malformedTrace ↔ traceOk tr = false := by
  unfold loadTrace
  cases traceOk tr <;> simp

/-- Settles O6: the check of the trace looks for a reserved condition code in each record. -/
theorem onlyMalformedTracesAreRefused : Obligations.OnlyMalformedTracesAreRefused := by
  intro tr s
  simp only [loadTrace_eq_refused_iff, traceOk_eq_false_iff, reservedConditionWord_iff]

/-! ### A period without a word -/

theorem fetch_of_no_word (hops : s.ops = []) (hstims : s.stims = []) : fetch s = fetchFree s := by
  simp [fetch, hops, hstims]

/-- Settles O8: the two levels are the free values that the fetch takes; the empty program passes the check. -/
theorem clockRunsOnWithoutStimulus : Obligations.ClockRunsOnWithoutStimulus := by
  intro s hcfg hstarted hops hstims
  have hok : stimsOk s.stims = true := hstims ▸ rfl
  exact ⟨Config.rstLevel s.free, Config.rcInLevel s.free,
    step_of_fetch hcfg hok (fetch_of_no_word hops hstims) (mayPerform_of_started hstarted)⟩

/-! ### Where a transition ends -/

/-- Of the delays only the first dead time is followed by another; the sequencer's act at the end of any other releases the
block (R197 to R200). -/
theorem seqAct_idle_iff (hact : seqAct s = .next t) : t.phase = .idle ↔ s.phase ≠ .dead1 := by
  obtain ⟨hphase, -, rfl⟩ | ⟨hphase, -, rfl⟩ | ⟨hphase, -, rfl⟩ | ⟨hphase, -, rfl⟩ | ⟨hphase, -, rfl⟩ |
    ⟨hphase, -, rfl⟩ := seqAct_cases hact
  case inr.inr.inl | inr.inr.inr.inl | inr.inr.inr.inr.inr => exact iff_of_true rfl (hphase.trans_ne nofun)
  all_goals exact iff_of_false nofun (not_not.mpr hphase)

/-- SEQ_STEP keeps the block busy within a delay, and at the end of the first dead time (R196, R197, R199). -/
theorem seqStep_busy (hstep : seqStep s = .next t) (hbusy : s.phase ≠ .idle)
    (hstay : 2 ≤ s.seqCnt ∨ s.phase = .dead1) : t.phase ≠ .idle := by
  have hcount : State.Frame [.seqCnt] s (seqCntDown (emit .seqStep none s)) := State.Frame.emit.trans .seqCntDown
  obtain ⟨-, rfl⟩ | ⟨hzero, hact⟩ := seqStep_cases hstep
  · exact hcount.seq_eq.1.trans_ne hbusy
  · have hdead : s.phase = .dead1 := by
      refine hstay.resolve_left fun hcnt => ?_
      rw [seqCntDown_emit_of_pos (by omega)] at hzero
      exact absurd hzero (Nat.sub_ne_zero_of_lt hcnt)
    exact fun hidle => (seqAct_idle_iff hact).mp hidle (hcount.seq_eq.1.trans hdead)

/-- SEQ_STEP releases the block in the last cycle of the second dead time and of the settle delay (R198, R200). -/
theorem seqStep_idle (hstep : seqStep s = .next t) (hcnt : s.seqCnt = 1) (hphase : s.phase ≠ .dead1) :
    t.phase = .idle := by
  rw [seqStep_of_one hcnt] at hstep
  exact (seqAct_idle_iff hstep).mpr hphase

/-! ### A cycle that stays busy -/

/-- After LATCH a cycle that stays busy performs SEQ_STEP and nothing else (R120, R253). -/
theorem State.AtBoundary.exists_runCycle_busy (h : s.AtBoundary) (hbusy : s.phase ≠ .idle)
    (hstay : 2 ≤ s.seqCnt ∨ s.phase = .dead1) :
    ∃ t, runCycle s = .next t ∧ t.phase ≠ .idle ∧
      State.Frame [.motorState, .sw, .seq, .seqCnt] (cycleFront s) t := by
  have hphase : (cycleFront s).phase = s.phase := cycleFront_frame.seq_eq.1
  have hcnt : (cycleFront s).seqCnt = s.seqCnt := cycleFront_frame.seqCnt_eq
  obtain ⟨u, hstep, -⟩ := (h.sequenced.of_frame cycleFront_frame).exists_seqStep h.bounded.cycleFront.rule12
    (hphase.trans_ne hbusy)
  have hbusy' : u.phase ≠ .idle := seqStep_busy hstep (hphase.trans_ne hbusy) (by rwa [hcnt, hphase])
  refine ⟨endCycle u, ?_, hbusy', (State.Frame.seqStep hstep).trans .endCycle⟩
  rw [runCycle_of_busy hbusy, hstep, andThen_next, cycleIdle_of_busy hbusy', andThen_next]

/-- Settles O46: SEQ_STEP, all that follows LATCH, leaves the flags and both counters as LATCH does; the frame of the whole
cycle keeps the decoder's registers, the watchdog and the duty. -/
theorem busyCycleHoldsEventsAndArbiter : Obligations.BusyCycleHoldsEventsAndArbiter := by
  intro s hs hbusy hstay
  have h := State.boundary_iff.mp hs
  obtain ⟨t, hrun, hbusy', hseq⟩ := h.exists_runCycle_busy hbusy hstay
  have hframe := cycleFront_frame.trans hseq
  have htime : t.time = nextTime s := hseq.time_eq.trans cycleFront_time
  refine ⟨t, hrun, hbusy', hframe.read .pulseStart (by decide), hframe.wdCnt_eq, hframe.targetState_eq,
    hframe.read .targetPower (by decide), hframe.duty_eq, htime, hseq.rcPrev_eq.trans cycleFront_rcPrev,
    runCycle_pwm_of_last hrun, fun hne => runCycle_pwm_of_ne_last hrun hne (h.pwmCnt_lt_255 hne), ?_⟩
  rw [hseq.pend_eq, htime, hseq.pwmCnt_eq, hseq.dutySh_eq]
  exact ⟨cycleFront_pend_edge, cycleFront_pend_tick, cycleFront_pend_start, cycleFront_pend_pwmMatch⟩

/-! ### A cycle that is idle at the services -/

/-- Where the block is idle after SEQ_STEP, the cycle services every flag, and the arbiter sets none (R38, R255). -/
theorem cycleIdle_pend (hidle : s.phase = .idle) (h : cycleIdle s = .next t) : t.pend = Events.none := by
  have harb : arbitrate (serviceEvents s) = .next t :=
    (if_neg (mt State.busy_iff.mp (not_not.mpr hidle))).symm.trans h
  exact (State.Frame.arbitrate harb).pend_eq.trans serviceEvents_pend

/-- After SEQ_STEP the block is idle if it was before, or in the last cycle of the second dead time or the settle delay
(R120, R198, R200). -/
theorem cycleSeq_idle (hseq : cycleSeq s = .next t) (h : s.phase = .idle ∨ (s.seqCnt = 1 ∧ s.phase ≠ .dead1)) :
    t.phase = .idle := by
  unfold cycleSeq at hseq
  split at hseq
  case isTrue hbusy =>
    obtain ⟨hcnt, hphase⟩ := h.resolve_left (State.busy_iff.mp hbusy)
    exact seqStep_idle hseq hcnt hphase
  case isFalse hidle => exact Host.Outcome.next.inj hseq ▸ not_not.mp (mt State.busy_iff.mpr hidle)

/-- A cycle that begins idle, or in which a transition ends, leaves no flag set (R255). -/
theorem runCycle_pend (hrun : runCycle s = .next t) (h : s.phase = .idle ∨ (s.seqCnt = 1 ∧ s.phase ≠ .dead1)) :
    t.pend = Events.none := by
  obtain ⟨u, v, hseq, hidle, rfl⟩ := runCycle_cases hrun
  rw [← (cycleFront_frame (s := s)).seq_eq.1, ← (cycleFront_frame (s := s)).seqCnt_eq] at h
  exact State.Frame.endCycle.pend_eq.trans (cycleIdle_pend (cycleSeq_idle hseq h) hidle)

/-- Settles O47: SERVICE clears every flag, and a cycle performs it wherever SEQ_STEP leaves the block idle. -/
theorem serviceLeavesNoFlagPending : Obligations.ServiceLeavesNoFlagPending := by
  refine ⟨fun _ => serviceEvents_pend, fun s t hidle hrun => runCycle_pend hrun (.inl hidle),
    fun s t _ hcnt hphase hrun => runCycle_pend hrun (.inr ⟨hcnt, ?_⟩)⟩
  obtain hphase | hphase := hphase <;> exact hphase.trans_ne nofun

end Sys2Proof.Machine
end

section
/-! PROOFS. Reset and hazards (spec/70_reset_and_hazards.md): the values that RESET leaves (R280), and the idle cycle in which
a valid falling edge is served: the decode reaches the arbiter in that cycle (R294). -/

namespace Sys2Proof.Machine

variable {s t : State} {rs : List Reg}

/-! ### RESET -/

/-- RESET as one update: the fourteen registers at their reset values, the pins as at the beginning of any period, and
its record, stamped with the TIME it leaves (R143, R280). -/
theorem resetBlock_eq (s : State) :
    resetBlock s = { s with
      time := 0, pulseStart := 0, wdCnt := 0, targetState := .brake, targetPower := 0, motorState := .uninit
      duty := 0, dutySh := 0, pwmCnt := 0, sw := Switches.off, rcPrev := false, pend := Events.none
      phase := .idle, tgt := .uninit, seqCnt := 0
      pins := s.sw, free := s.free + 1, ev := Events.none, started := true
      trace := ⟨0, 0xF0, none⟩ :: s.trace } := rfl

/-- Settles O50: either word performs the one update of RESET. -/
theorem resetSetsEveryRegister : Obligations.ResetSetsEveryRegister := by
  intro s
  have hword : exec .reset s = .next (resetBlock s) := exec_of_isReset rfl
  have hstim : exec .stimReset s = .next (resetBlock s) := exec_of_isReset rfl
  refine ⟨hstim.trans hword.symm, resetBlock s, hword, ?_⟩
  simp [resetBlock_eq, Switches.off, Events.none]

/-! ### The services of a valid falling edge -/

theorem State.Frame.targetPower_eq (h : Frame rs s t) (hr : .targetPower ∉ rs := by decide) :
    t.targetPower = s.targetPower :=
  h.read .targetPower hr

/-- The edge service writes the decode of a valid width to the two targets at a falling edge (R150, R154). -/
theorem edgeService_targets (hlow : s.rcPrev = false) (hmin : s.cfg.pwMin ≤ elapsed s) (hmax : elapsed s ≤ s.cfg.pwMax) :
    ((edgeService s).targetState, (edgeService s).targetPower) = decodeValid s.cfg (elapsed s) := by
  rw [edgeService_of_low hlow]
  exact targets_of_exec_edgeFall (s := clearPend .edge s) rfl rfl hmin hmax

/-- Without a tick nothing after the edge service writes the targets, so that SERVICE leaves the decode (R255). -/
theorem serviceEvents_targets (hedge : s.pend.edge = true) (htick : s.pend.tick = false) (hlow : s.rcPrev = false)
    (hmin : s.cfg.pwMin ≤ elapsed s) (hmax : elapsed s ≤ s.cfg.pwMax) :
    ((serviceEvents s).targetState, (serviceEvents s).targetPower) = decodeValid s.cfg (elapsed s) := by
  have hserved : serviceIf .edge edgeService s = edgeService s := if_pos hedge
  have hskip : serviceIf .tick tickService (edgeService s) = edgeService s := by
    refine if_neg (Bool.eq_false_iff.mp ?_)
    rw [edgeService_pend]
    exact htick
  have hlater : State.Frame [.sw, .pend] (serviceIf .tick tickService (serviceIf .edge edgeService s))
      (serviceEvents s) :=
    (State.Frame.serviceIf .pwmStartService).trans_same (.serviceIf .pwmMatchService)
  rw [hserved, hskip] at hlater
  rw [hlater.targetState_eq, hlater.targetPower_eq]
  exact edgeService_targets hlow hmin hmax

/-- The width that the services of a cycle measure ends at the TIME of that cycle (R123, R153). -/
theorem elapsed_cycleFront (s : State) :
    (elapsed (cycleFront s) : Int) = ((nextTime s : Int) - s.pulseStart) % (2 ^ s.cfg.timeW : Nat) := by
  have hfront : State.Frame _ s (cycleFront s) := cycleFront_frame
  have hstart : (cycleFront s).pulseStart = s.pulseStart := hfront.read .pulseStart (by decide)
  rw [elapsed_cast, cycleFront_time, hstart, hfront.cfg]

/-! ### What the arbiter makes of the targets -/

/-- An idle ARB acts on the targets: DUTY takes the power of a target already reached, else a transition starts (R240). -/
theorem exists_arbitrate_acts (hidle : s.phase = .idle) (hinit : s.targetState ≠ .uninit) :
    ∃ t, arbitrate s = .next t ∧
      (s.targetState = s.motorState → t.phase = .idle ∧ t.duty = s.targetPower) ∧
      (s.targetState ≠ s.motorState → t.phase = .dead1 ∧ t.seqCnt = s.cfg.dead) := by
  by_cases heq : s.targetState = s.motorState
  · exact ⟨_, arbitrate_of_reached heq (heq ▸ hinit), fun _ => ⟨hidle, rfl⟩, absurd heq⟩
  · have hbefore := resetDutyFor_emit_frame (g := arbGoal s.targetState s.motorState) (s := s)
    exact ⟨_, arbitrate_starts_transition hidle hinit heq rfl, fun h => absurd h heq,
      fun _ => ⟨rfl, congrArg Config.Params.dead hbefore.cfg⟩⟩

/-! ### The cycle of a valid falling edge -/

/-- Settles O48: the boundary holds no flag, so that the falling edge is pending at the services and no tick is; EDGE_FALL
decodes the width up to this cycle's TIME, and ARB, which comes after it, acts on the decode. -/
theorem fallingEdgeIsActedOnInItsCycle : Obligations.FallingEdgeIsActedOnInItsCycle := by
  intro s hs hidle hprev hlevel htime e he hmin hmax
  have hnone : s.pend = Events.none := (State.boundary_iff.mp hs).pend hidle
  have hfront : State.Frame _ s (cycleFront s) := cycleFront_frame
  have hedge : (cycleFront s).pend.edge = true := by
    rw [cycleFront_pend_edge, hprev, hlevel]
    exact Bool.or_true _
  have htick : (cycleFront s).pend.tick = false := by
    rw [cycleFront_pend_tick, hnone]
    exact beq_eq_false_iff_ne.mpr htime
  have hwidth : elapsed (cycleFront s) = e := by exact_mod_cast (elapsed_cycleFront s).trans he.symm
  have htargets := serviceEvents_targets hedge htick (cycleFront_rcPrev.trans hlevel)
    (by rwa [hwidth, hfront.cfg]) (by rwa [hwidth, hfront.cfg])
  rw [hwidth, hfront.cfg] at htargets
  obtain ⟨hstate, hpower⟩ := Prod.ext_iff.mp htargets
  have hserved := hfront.trans (serviceEvents_frame (s := cycleFront s))
  obtain ⟨t, harb, hreached, hstarts⟩ := exists_arbitrate_acts (hserved.seq_eq.1.trans hidle)
    (hstate.trans_ne (decodeValid_ne_uninit s.cfg e))
  have hkept := State.Frame.arbitrate harb
  have hrun : runCycle s = .next (endCycle t) := by rw [runCycle_of_idle hidle, harb, andThen_next]
  rw [← hkept.targetState_eq, hserved.motorState_eq] at hreached hstarts
  rw [← hkept.targetPower_eq] at hreached
  rw [hserved.cfg] at hstarts
  exact ⟨endCycle t, hrun, hkept.targetState_eq.trans hstate, hkept.targetPower_eq.trans hpower, hreached, hstarts⟩

end Sys2Proof.Machine
end
